-- ==== Sys2Proof/Word.lean ====
section
/-! DEFINITION. The units of the Vesjor 2340 (spec ch. 1, ch. 2): bytes, chunks, stored lines, and what the
commands from outside carry (a request, the end of a memory-port operation). -/

namespace Sys2Proof

abbrev Byte := BitVec 8

/-- The 8 data bytes of a chunk (R1). Position `p` of the chunk (0 to 7, ascending address) is bits `8p+7` to `8p`
(`Machine.byteAt`); the numbering of the bits is internal and never leaves the model. -/
abbrev ChunkData := BitVec 64

/-- A chunk as stored: 64 data bits and an 8-bit check value (1.3, R2). -/
structure StoredChunk where
  data  : ChunkData
  check : Byte
  deriving DecidableEq, Repr, Inhabited

/-- The 72 bytes of a stored line: eight groups, chunk 0 first (R2). -/
abbrev StoredLine := Vector StoredChunk 8

/-- Tags are per port, 0 to 15 (R18). -/
abbrev Tag := Fin 16

/-- Downstream slots 0 to 7 (R129). -/
abbrev SlotNumber := Fin 8

/-- Chunks 0 to 7 of a line (R1). -/
abbrev ChunkNumber := Fin 8

/-- The eight chunk numbers in ascending order. -/
def chunkNumbers : List ChunkNumber := [0, 1, 2, 3, 4, 5, 6, 7]

/-- The line-sized vector of a function of the chunk number. -/
def perChunk {α : Type} (f : ChunkNumber → α) : Vector α 8 :=
  #v[f 0, f 1, f 2, f 3, f 4, f 5, f 6, f 7]

/-- Upstream ports U0 and U1. -/
inductive Port where
  | u0
  | u1
  deriving DecidableEq, Repr, Inhabited

/-- What a request asks (R18). A WRITE carries its byte-enable set, positions counted from the byte address, each
position with its data byte; a READ carries neither. -/
inductive RequestOp where
  | read
  | write (bytes : List (Nat × Byte))
  deriving DecidableEq, Repr

/-- A request as a port hands it to the bridge, whole (R18). The length is "as carried, 0 upward". -/
structure Request where
  port    : Port
  tag     : Tag
  address : BitVec 36
  length  : Nat
  op      : RequestOp
  deriving DecidableEq, Repr

/-- The controller's report for one slot (R127): DONE, with the line as stored when the operation completed is a
LINE READ, or FAILED. -/
inductive CompletionStatus where
  | done (line : Option StoredLine)
  | failed
  deriving DecidableEq, Repr

/-- What RESET_N does in a COLD_RESET (R169). `frameOpen`: CS_N is low when the reset ends, so that a frame is in
progress that fell before the reset ended (R185). -/
inductive ResetEdge where
  /-- Power-on, or the assertion and the release with nothing between them. -/
  | whole (frameOpen : Bool)
  /-- RESET_N is asserted, and stays so. -/
  | assertion
  /-- RESET_N is released: the reset ends. -/
  | release (frameOpen : Bool)
  deriving DecidableEq, Repr

end Sys2Proof
end

