-- ==== Sys2Proof/Syntax.lean ====
section
/-! DEFINITION. The commands of the bridge: one constructor for each row of spec/opcode_table.json, in the table's
order, with the operands the rules give it. -/

namespace Sys2Proof

/-- A command: one whole, indivisible step of the part (spec/95_what_each_step_holds.md). -/
inductive Instr where
  /-- Power-on, or assertion and release of RESET_N, as one command or as two (R169). -/
  | coldReset (edge : ResetEdge := .whole false)
  /-- A port presents a request and the acceptance tests are applied to it (R21). -/
  | presentedRequest (r : Request)
  /-- The arbiter looks for one grant while the controller's ready indication is as given (R128, R130). -/
  | grant (ready : Bool)
  /-- The controller reports the end of the operation of a slot (R136, R139, R140). -/
  | completion (slot : SlotNumber) (status : CompletionStatus)
  /-- The timebase emits a tick (R145). -/
  | tick
  /-- The tick count of a BUSY slot has reached DOWNSTREAM_TIMEOUT (R137). -/
  | slotExpiry (slot : SlotNumber)
  /-- The scrub interval countdown has reached 0 (R149). -/
  | countdownExpiry
  /-- The engine takes the head of the Sparing Queue (R108). -/
  | take
  /-- The four conditions of the STOP drain hold (R162). -/
  | stopDrainComplete
  /-- The three conditions of the RESTART drain hold (R166). -/
  | restartDrainComplete
  | readIdentity
  | readState
  | configureInstalledLines (value : BitVec 32)
  | configureSpareLines (value : BitVec 32)
  | configureSpareThreshold (value : BitVec 32)
  | configureTickShift (value : BitVec 32)
  | configureScrubInterval (value : BitVec 32)
  | configureDownstreamTimeout (value : BitVec 32)
  | configureHaltedPolicy (value : BitVec 32)
  | configureRepairEnable (value : BitVec 32)
  | configureEventMask (value : BitVec 32)
  | configureAlertEnable (value : BitVec 32)
  | readConfig (item : Byte)
  | start
  | stop
  | restart
  | loadMap (home : BitVec 32) (spare : Byte)
  | loadRetired (spare : Byte)
  | requestSpare (home : BitVec 32)
  | readMapEntry (entry : Byte)
  | findMap (home : BitVec 32)
  | readSpare (spare : Byte)
  | readSuspect (position : Byte)
  | readSparingQueue (position : Byte)
  | takeEvent
  | readCounters
  | clearCounters
  /-- A COMMAND frame that is not well formed: its complete MOSI bytes (R186, R189 test 3). -/
  | badCheck (frame : List Byte)
  /-- A well-formed COMMAND frame whose code names no command (R189 test 4). -/
  | unknown (frame : List Byte)
  /-- A COMMAND frame that arrives while the command slot is EXECUTING (R189 test 1, R190). -/
  | overrun (frame : List Byte)
  /-- A RESULT frame of the given number of complete bytes (R191). -/
  | resultFrame (length : Nat)
  /-- A well-formed COMMAND frame of a known code with another argument length than its command's (R189 test 5). -/
  | badArgumentLength (frame : List Byte)
  deriving DecidableEq, Repr

end Sys2Proof
end

