-- ==== Sys2Proof/Decode.lean ====
section
/-! DEFINITION. The table's bit patterns. No row of spec/opcode_table.json gives bits: the commands come from outside
whole, and no word spells one. The frames of the management link are parsed in Sys2Proof/Machine/Frame.lean. -/

namespace Sys2Proof

/-- The command that a word spells by the table's bits: no row gives any. -/
def decodeTableWord (_nbits _w : Nat) : Option Instr := none

end Sys2Proof
end

