-- ==== Sys2Proof/Config.lean ====
section
/-! DEFINITION. What is fixed for the part: the capacities the spec numbers, the check code (a free constant bound by
the spec's guarantees), and the free values of the choices the spec leaves open. -/

namespace Sys2Proof.Config

/-! ## Capacities (R195 and the rules named there) -/

def tableEntries : Nat := 32
def entriesPerPort : Nat := 16
def mapEntries : Nat := 128
def sparingCapacity : Nat := 8
def suspectCapacity : Nat := 32
def repairCapacity : Nat := 4
def eventCapacity : Nat := 16
def slotCount : Nat := 8

/-- The scrub read is promoted at this pass-over count (R135). -/
def passOverLimit : Nat := 32

/-! ## The check code (1.3)

The spec gives no bit matrix; it gives guarantees. The model's code is any code with a bit matrix that has them.
DEDUCED (log 1): the check value is a sum of columns over the data bits, and "difference" and "combined with" (R9,
R14) are the bitwise exclusive or, because the class follows from the syndrome alone and one bit error has one
syndrome whatever the data (R9). -/

/-- The syndromes of the eight check bits: an error in check bit `j` changes the stored check value in bit `j`. -/
def checkColumns : List Byte := [0x01, 0x02, 0x04, 0x08, 0x10, 0x20, 0x40, 0x80]

/-- The guarantees of R7 and R10, said of the columns of the bit matrix (the syndromes of one bit error in each of the
64 data bits) and of the poison syndrome.

DEDUCED (log 1), for R7 says "every chunk": guarantees 1 to 3 are those of a chunk written with data. One written as
poison has guarantee 4, and R10 after one bit error; after two it is not CLEAN, but a lawful code may class it
CORRECTED. -/
structure Lawful (columns : List Byte) (poison : Byte) : Prop where
  /-- One column for each data bit. -/
  count : columns.length = 64
  /-- R9: a syndrome of one bit error belongs to one bit of the 72. -/
  distinct : (columns ++ checkColumns).Nodup
  /-- R7 (2): one bit error is not CLEAN. -/
  nonzero : (0 : Byte) ∉ columns ++ checkColumns
  /-- R7 (3): two bit errors are not CORRECTED. -/
  double : ∀ a ∈ columns ++ checkColumns, ∀ b ∈ columns ++ checkColumns, a ≠ b → a ^^^ b ∉ columns ++ checkColumns
  /-- R7 (4): the poison syndrome is not zero. -/
  poisonNonzero : poison ≠ 0
  /-- R7 (4): the poison syndrome is no syndrome of one bit error. -/
  poisonApart : poison ∉ columns ++ checkColumns
  /-- R10: a poisoned chunk with one further bit error is not CORRECTED. DEDUCED (log 1): under the exclusive or no two
  bit errors then form the poison syndrome, so the POISONED case of R7 (3) and of R10 is empty in the model. -/
  poisonHit : ∀ a ∈ columns ++ checkColumns, poison ^^^ a ∉ columns ++ checkColumns

/-- The parity of a byte's bits, used only to show that a lawful code exists. -/
def oddParity (b : Byte) : Bool :=
  b.getLsbD 0 ^^ b.getLsbD 1 ^^ b.getLsbD 2 ^^ b.getLsbD 3 ^^ b.getLsbD 4 ^^ b.getLsbD 5 ^^ b.getLsbD 6 ^^ b.getLsbD 7

theorem xor_medial : ∀ a b c d : Bool, ((a ^^ b) ^^ (c ^^ d)) = ((a ^^ c) ^^ (b ^^ d)) := by decide

theorem oddParity_xor (a b : Byte) : oddParity (a ^^^ b) = (oddParity a ^^ oddParity b) := by
  simp only [oddParity, BitVec.getLsbD_xor]
  rw [xor_medial (a.getLsbD 0) _ (a.getLsbD 1),
    xor_medial (a.getLsbD 0 ^^ a.getLsbD 1) _ (a.getLsbD 2),
    xor_medial (a.getLsbD 0 ^^ a.getLsbD 1 ^^ a.getLsbD 2) _ (a.getLsbD 3),
    xor_medial (a.getLsbD 0 ^^ a.getLsbD 1 ^^ a.getLsbD 2 ^^ a.getLsbD 3) _ (a.getLsbD 4),
    xor_medial (a.getLsbD 0 ^^ a.getLsbD 1 ^^ a.getLsbD 2 ^^ a.getLsbD 3 ^^ a.getLsbD 4) _ (a.getLsbD 5),
    xor_medial (a.getLsbD 0 ^^ a.getLsbD 1 ^^ a.getLsbD 2 ^^ a.getLsbD 3 ^^ a.getLsbD 4 ^^ a.getLsbD 5) _ (a.getLsbD 6),
    xor_medial (a.getLsbD 0 ^^ a.getLsbD 1 ^^ a.getLsbD 2 ^^ a.getLsbD 3 ^^ a.getLsbD 4 ^^ a.getLsbD 5 ^^ a.getLsbD 6) _ (a.getLsbD 7)]

/-- The columns of one lawful code; they show that the guarantees can be met together and nothing else. -/
def sampleColumns : List Byte :=
  [0x07, 0x0B, 0x0D, 0x0E, 0x13, 0x15, 0x16, 0x19, 0x1A, 0x1C, 0x23, 0x25, 0x26, 0x29, 0x2A, 0x2C,
   0x31, 0x32, 0x34, 0x38, 0x43, 0x45, 0x46, 0x49, 0x4A, 0x4C, 0x51, 0x52, 0x54, 0x58, 0x61, 0x62,
   0x64, 0x68, 0x70, 0x83, 0x85, 0x86, 0x89, 0x8A, 0x8C, 0x91, 0x92, 0x94, 0x98, 0xA1, 0xA2, 0xA4,
   0xA8, 0xB0, 0xC1, 0xC2, 0xC4, 0xC8, 0xD0, 0xE0, 0x1F, 0x2F, 0x37, 0x3B, 0x3D, 0x3E, 0x4F, 0x57]

theorem sampleColumns_odd : ∀ a ∈ sampleColumns ++ checkColumns, oddParity a = true := by decide +kernel

theorem sample_sum_apart (a b : Byte) (ha : oddParity a = true) (hb : oddParity b = true) :
    a ^^^ b ∉ sampleColumns ++ checkColumns := by
  intro h
  have := sampleColumns_odd _ h
  simp [oddParity_xor, ha, hb] at this

theorem sampleLawful : Lawful sampleColumns 0x7F where
  count := by decide
  distinct := by decide +kernel
  nonzero := by decide
  double a ha b hb _ := sample_sum_apart a b (sampleColumns_odd a ha) (sampleColumns_odd b hb)
  poisonNonzero := by decide
  poisonApart := by decide
  poisonHit a ha := sample_sum_apart 0x7F a (by decide) (sampleColumns_odd a ha)

/-- A check code with the guarantees of 1.3. -/
structure CheckCode where
  columns   : List Byte := sampleColumns
  zeroCheck : Byte := 0
  poison    : Byte := 0x7F
  lawful    : Lawful columns poison := by exact sampleLawful
  deriving Inhabited

/-- The part's check code. FREE: no proof can see which lawful code it is (log 1). -/
opaque code : CheckCode

/-! ## Free values (log 3, log 8). Each is applied to the state's counter of draws. -/

/-- Which port's held request is taken first when both hold one (R21: "the two are taken in either order"). -/
opaque freeFirstPort : Nat → Port

/-- A rank that decides the order of responses produced together for one port (R19: "leave in either order"). -/
opaque freeRank : Nat → Nat

/-- The data of a LINE READ ended by a completion that carries no line (R140 states no data there). -/
opaque freeLine : Nat → StoredLine

end Sys2Proof.Config
end

