-- ==== Sys2Proof/Machine/State.lean ====
section
/-! DEFINITION. The state of the bridge as plain data, block by block as 00_scope.md lists them, and the state right
after a cold reset. -/

namespace Sys2Proof.Machine

/-! ## Lines and chunks (ch. 1) -/

/-- Where a stored line lives (R5): physical line `line`, or spare `index`. -/
inductive Location where
  | home (line : Nat)
  | spare (index : Nat)
  deriving DecidableEq, Repr

/-- A chunk class with the data the codec supplies for it (R9, R11). -/
inductive ChunkResult where
  | clean (data : ChunkData)
  | corrected (data : ChunkData)
  | poisoned
  | uncorrectable
  deriving DecidableEq, Repr

/-- The codec's result for one line (R11). -/
abbrev LineResult := Vector ChunkResult 8

/-- What a writer stores in a chunk (R15): data with a fresh check, or poison. -/
inductive ChunkContent where
  | data (d : ChunkData)
  | poison
  deriving DecidableEq, Repr

/-! ## Configuration (R196) -/

inductive HaltedPolicy where
  | stall
  | refuse
  deriving DecidableEq, Repr

structure Configuration where
  installedLog2     : Nat
  spareLines        : Nat
  spareThreshold    : Nat
  tickShift         : Nat
  scrubInterval     : Nat
  downstreamTimeout : Nat
  haltedPolicy      : HaltedPolicy
  repairEnable      : Bool
  eventMask         : BitVec 16
  alertEnable       : Bool
  deriving DecidableEq, Repr

/-! ## Upstream ports and the Transaction Table (ch. 2) -/

/-- A port's presented request while test 2 holds it (R23). -/
structure Ports where
  heldU0 : Option Request
  heldU1 : Option Request
  deriving DecidableEq, Repr

inductive WriteClass where
  | full
  | partialWrite
  deriving DecidableEq, Repr

/-- Kind of an entry; a WRITE keeps its class and its enabled positions with their data (R27, R29). -/
inductive EntryOp where
  | read
  | write (cls : WriteClass) (bytes : List (Nat × Byte))
  deriving DecidableEq, Repr

inductive Phase where
  | waiting
  | ready
  | issued
  | merging
  | writeReady
  | issuedWrite
  deriving DecidableEq, Repr

/-- A transaction entry (R29). -/
structure Entry where
  port       : Port
  tag        : Tag
  op         : EntryOp
  home       : Nat
  offset     : Nat
  length     : Nat
  position   : Nat
  phase      : Phase
  slot       : Option SlotNumber
  location   : Option Location
  readResult : Option LineResult
  deriving DecidableEq, Repr

/-! ## Repair Queue (4.1) -/

/-- A repair record (R64). -/
structure RepairRecord where
  home     : Nat
  location : Location
  chunks   : List (ChunkNumber × ChunkContent)
  position : Nat
  deriving DecidableEq, Repr

/-- A repair that has left the queue and is in a slot (R64, R71). -/
structure IssuedRepair where
  record : RepairRecord
  slot   : SlotNumber
  deriving DecidableEq, Repr

structure Repairs where
  queue  : List RepairRecord
  issued : List IssuedRepair
  deriving DecidableEq, Repr

/-! ## Suspect List (4.2) -/

structure SuspectRecord where
  location : Location
  count    : Nat
  touched  : Bool
  deriving DecidableEq, Repr

/-! ## Events (10.1, 10.2) -/

inductive Origin where
  | u0
  | u1
  | scrub
  | migration
  | memoryPort
  | management
  | service
  deriving DecidableEq, Repr

inductive Reason where
  | threshold
  | uncorrectable
  | command
  deriving DecidableEq, Repr

inductive Stage where
  | read
  | write
  deriving DecidableEq, Repr

inductive EventKind where
  | corrected
  | uncorrectable
  | poisonRead
  | range
  | form
  | tagClash
  | spared
  | noSpare
  | migrationFailed
  | spareQueueFull
  | repairDropped
  | downstreamTimeout
  | lateCompletion
  | downstreamFailed
  | scrubPass
  | restarted
  deriving DecidableEq, Repr

inductive Detail where
  | spare (index : Nat)
  | stage (stage : Stage)
  | slot (number : SlotNumber)
  | reason (reason : Reason)
  deriving DecidableEq, Repr

/-- What a rule offers: the fields of R172 that the offering rule fixes. -/
structure Event where
  kind       : EventKind
  origin     : Origin
  location   : Option Location    := none
  chunk      : Option ChunkNumber := none
  chunkCount : Option Nat         := none
  tag        : Option Tag         := none
  detail     : Option Detail      := none
  deriving DecidableEq, Repr

/-- A stored event record (R172). -/
structure EventRecord where
  sequence : BitVec 16
  event    : Event
  lost     : Bool
  deriving DecidableEq, Repr

/-- Event Queue, event sequence and lost mark (R174, R176). -/
structure EventQueue where
  records  : List EventRecord
  sequence : BitVec 16
  lost     : Bool
  deriving DecidableEq, Repr

/-- The nine counters (R180). -/
structure Counters where
  correctedReads     : BitVec 32
  uncorrectableReads : BitVec 32
  poisonReads        : BitVec 32
  repairsWritten     : BitVec 32
  repairsDropped     : BitVec 32
  migrationsDone     : BitVec 32
  migrationsFailed   : BitVec 32
  scrubPasses        : BitVec 32
  downstreamTimeouts : BitVec 32
  deriving DecidableEq, Repr

/-! ## Remap Table, Spare Pool, Sparing Queue, engine (ch. 5, ch. 6) -/

inductive OldTarget where
  | home
  | spare (index : Nat)
  deriving DecidableEq, Repr

/-- A Remap Table entry (R84). -/
inductive MapEntry where
  | free
  | active (home target : Nat)
  | moving (home : Nat) (old : OldTarget) (new : Nat)
  deriving DecidableEq, Repr

abbrev EntryNumber := Fin 128

inductive SpareState where
  | available
  | allocated
  | retired
  deriving DecidableEq, Repr

/-- A sparing request (R102). -/
structure SparingRequest where
  home   : Nat
  reason : Reason
  origin : Origin
  deriving DecidableEq, Repr

/-- The fields of the migration context that are present in every state but IDLE (R107). -/
structure Migration where
  home  : Nat
  entry : EntryNumber
  old   : OldTarget
  new   : Nat
  deriving DecidableEq, Repr

/-- The Migration Engine (R107). A slot is present exactly when the state's operation is issued. -/
inductive Engine where
  | idle
  | quiesce (m : Migration)
  | copyRead (m : Migration) (slot : Option SlotNumber)
  | copyWrite (m : Migration) (slot : Option SlotNumber) (content : Vector ChunkContent 8)
  deriving DecidableEq, Repr

/-! ## Memory port (ch. 7) -/

inductive OpKind where
  | lineRead
  | chunkWrite
  deriving DecidableEq, Repr

/-- Who waits for the operation of a BUSY slot (R129). An entry is named by its port and tag (R20), an issued repair
by its line (R64). -/
inductive Requester where
  | entry (port : Port) (tag : Tag)
  | repair (home : Nat)
  | scrub
  | copyRead
  | copyWrite
  deriving DecidableEq, Repr

inductive Slot where
  | free
  | busy (kind : OpKind) (line : Nat) (location : Location) (requester : Requester) (count : Nat)
  | orphaned (kind : OpKind) (line : Nat) (location : Location)
  deriving DecidableEq, Repr

structure MemoryPort where
  slots    : Vector Slot 8
  passOver : Nat
  mark     : Port
  deriving DecidableEq, Repr

/-! ## Patrol scrub (ch. 8) -/

inductive ScrubState where
  | off
  | waiting
  | pending
  | reading
  deriving DecidableEq, Repr

/-- The scrub read; location and slot from its grant (R147). -/
structure ScrubRead where
  home     : Nat
  position : Nat
  granted  : Option (Location × SlotNumber)
  deriving DecidableEq, Repr

structure Scrub where
  state     : ScrubState
  cursor    : Nat
  countdown : Nat
  read      : Option ScrubRead
  deriving DecidableEq, Repr

/-! ## Service Control (ch. 9) -/

inductive ServiceState where
  | halted
  | running
  | stopping
  | aborting
  deriving DecidableEq, Repr

inductive ResetKind where
  | cold
  | restart
  deriving DecidableEq, Repr

/-! ## Management link (ch. 11) -/

/-- Statuses of a result (R202). SUPERSEDED "can never be delivered" (R192). -/
inductive Status where
  | ok
  | refusedState
  | badArgument
  | inUse
  | queued
  | already
  | full
  | empty
  | notFound
  | badCheck
  | unknown
  | superseded
  deriving DecidableEq, Repr

/-- The two commands that can hold the slot EXECUTING (R188). -/
inductive DrainCommand where
  | stop
  | restart
  deriving DecidableEq, Repr

/-- A held result (R188). -/
structure HeldResult where
  code       : Byte
  status     : Status
  bytes      : List Byte
  prevUnread : Bool
  deriving DecidableEq, Repr

/-- The command slot (R188). While EXECUTING it already fixes the previous-result-unread flag that the drain's result
will carry (R189, R192). -/
inductive CommandSlot where
  | empty
  | executing (command : DrainCommand) (prevUnread : Bool)
  | ready (result : HeldResult)
  deriving DecidableEq, Repr

structure Link where
  slot    : CommandSlot
  overrun : Bool
  deriving DecidableEq, Repr

/-! ## RESET_N -/

/-- RESET_N (R169, R185): is it asserted, and did the frame now in progress begin before the last reset ended? -/
structure ResetPin where
  asserted  : Bool
  openFrame : Bool
  deriving DecidableEq, Repr

/-! ## What a command puts out -/

/-- Statuses of a response (R19). -/
inductive ResponseStatus where
  | ok
  | errRange
  | errForm
  | errPoison
  | errUncorr
  | errMemory
  | offline
  | aborted
  deriving DecidableEq, Repr

/-- A response (R19). Only a READ answered OK carries data. -/
structure Response where
  tag    : Tag
  status : ResponseStatus
  data   : List Byte := []
  deriving DecidableEq, Repr

/-- An operation offered to the memory controller (R127). A LINE READ has no groups. -/
structure Operation where
  kind   : OpKind
  line   : Nat
  slot   : SlotNumber
  groups : List (ChunkNumber × StoredChunk)
  deriving DecidableEq, Repr

/-- What the last command put out at the four interfaces (the model's own, log 7). -/
structure Outputs where
  u0     : List Response
  u1     : List Response
  memory : List Operation
  miso   : List Byte
  deriving DecidableEq, Repr

/-- No input stops the bridge: the spec describes no condition in which it does not go on (log 4). -/
inductive Fault where
  deriving DecidableEq, Repr

/-- Why a command has no next state. -/
inductive Refusal where
  /-- Raised only by a refused arm of `exec`, for a command without a meaning; no arm is refused. Safe. -/
  | notModelled (mnemonic : String)
  deriving DecidableEq, Repr

/-- The state of the bridge. -/
structure State where
  cfg          : Configuration
  service      : ServiceState
  lastReset    : ResetKind
  ports        : Ports
  tt           : List Entry
  nextPosition : Nat
  repairs      : Repairs
  suspects     : List SuspectRecord
  sparing      : List SparingRequest
  map          : Vector MapEntry 128
  spares       : List SpareState
  engine       : Engine
  memory       : MemoryPort
  scrub        : Scrub
  microseconds : Nat
  events       : EventQueue
  counters     : Counters
  link         : Link
  resetPin     : ResetPin
  out          : Outputs
  draws        : Nat
  pending      : List Instr
  deriving DecidableEq, Repr

/-- The cold-reset values of the ten items (R196). -/
def Configuration.reset : Configuration where
  installedLog2     := 24
  spareLines        := 64
  spareThreshold    := 3
  tickShift         := 4
  scrubInterval     := 0
  downstreamTimeout := 64
  haltedPolicy      := .stall
  repairEnable      := true
  eventMask         := 0xFFFF
  alertEnable       := true

def Counters.zero : Counters := ⟨0, 0, 0, 0, 0, 0, 0, 0, 0⟩

def Outputs.none : Outputs := ⟨[], [], [], []⟩

/-- The bridge right after a cold reset (R169 and the rules it gathers). -/
def State.reset : State where
  cfg          := .reset
  service      := .halted
  lastReset    := .cold
  ports        := ⟨none, none⟩
  tt           := []
  nextPosition := 0
  repairs      := ⟨[], []⟩
  suspects     := []
  sparing      := []
  map          := Vector.replicate 128 .free
  spares       := List.replicate 64 .available
  engine       := .idle
  memory       := ⟨Vector.replicate 8 .free, 0, .u1⟩
  scrub        := ⟨.off, 0, 0, none⟩
  microseconds := 0
  events       := ⟨[], 0, false⟩
  counters     := .zero
  link         := ⟨.empty, false⟩
  resetPin     := ⟨false, false⟩
  out          := .none
  draws        := 0
  pending      := []

end Sys2Proof.Machine
end

