-- ==== Sys2Proof/Machine/Flags.lean ====
section
/-! DEFINITION. Events, counters and the alert line (ch. 10). -/

namespace Sys2Proof.Machine

/-- The codes of R173. -/
def EventKind.code : EventKind → Nat
  | .corrected => 0
  | .uncorrectable => 1
  | .poisonRead => 2
  | .range => 3
  | .form => 4
  | .tagClash => 5
  | .spared => 6
  | .noSpare => 7
  | .migrationFailed => 8
  | .spareQueueFull => 9
  | .repairDropped => 10
  | .downstreamTimeout => 11
  | .lateCompletion => 12
  | .downstreamFailed => 13
  | .scrubPass => 14
  | .restarted => 15

/-- R174, R176: a passed event consumes a sequence number; it is stored with the lost mark, or dropped with the mark
set when the queue is full. -/
def EventQueue.pass (q : EventQueue) (e : Event) : EventQueue :=
  if q.records.length < Config.eventCapacity then
    ⟨q.records ++ [⟨q.sequence, e, q.lost⟩], q.sequence + 1, false⟩
  else
    ⟨q.records, q.sequence + 1, true⟩

/-- R174: an event whose kind is not in EVENT_MASK leaves no trace. -/
def EventQueue.offer (q : EventQueue) (mask : BitVec 16) (e : Event) : EventQueue :=
  if mask.getLsbD e.kind.code then q.pass e else q

/-- An event is offered to the Event Queue (R174). -/
def State.offer (s : State) (e : Event) : State :=
  { s with events := s.events.offer s.cfg.eventMask e }

/-- The nine counters by name (R180). -/
inductive CounterName where
  | correctedReads
  | uncorrectableReads
  | poisonReads
  | repairsWritten
  | repairsDropped
  | migrationsDone
  | migrationsFailed
  | scrubPasses
  | downstreamTimeouts
  deriving DecidableEq, Repr

/-- R180: a counter at 2^32−1 stays there. -/
def saturatingNext (c : BitVec 32) : BitVec 32 :=
  if c = BitVec.allOnes 32 then c else c + 1

def Counters.bump (c : Counters) : CounterName → Counters
  | .correctedReads => { c with correctedReads := saturatingNext c.correctedReads }
  | .uncorrectableReads => { c with uncorrectableReads := saturatingNext c.uncorrectableReads }
  | .poisonReads => { c with poisonReads := saturatingNext c.poisonReads }
  | .repairsWritten => { c with repairsWritten := saturatingNext c.repairsWritten }
  | .repairsDropped => { c with repairsDropped := saturatingNext c.repairsDropped }
  | .migrationsDone => { c with migrationsDone := saturatingNext c.migrationsDone }
  | .migrationsFailed => { c with migrationsFailed := saturatingNext c.migrationsFailed }
  | .scrubPasses => { c with scrubPasses := saturatingNext c.scrubPasses }
  | .downstreamTimeouts => { c with downstreamTimeouts := saturatingNext c.downstreamTimeouts }

def Counters.value (c : Counters) : CounterName → BitVec 32
  | .correctedReads => c.correctedReads
  | .uncorrectableReads => c.uncorrectableReads
  | .poisonReads => c.poisonReads
  | .repairsWritten => c.repairsWritten
  | .repairsDropped => c.repairsDropped
  | .migrationsDone => c.migrationsDone
  | .migrationsFailed => c.migrationsFailed
  | .scrubPasses => c.scrubPasses
  | .downstreamTimeouts => c.downstreamTimeouts

/-- A counter advances by 1 (R180). -/
def State.bump (s : State) (n : CounterName) : State :=
  { s with counters := s.counters.bump n }

/-- R183: ALERT_N is asserted while the Event Queue holds a record and ALERT_ENABLE is on. -/
def State.alertAsserted (s : State) : Bool :=
  !s.events.records.isEmpty && s.cfg.alertEnable

/-- The origin that names an upstream port (R172). -/
def portOrigin : Port → Origin
  | .u0 => .u0
  | .u1 => .u1

end Sys2Proof.Machine
end

