-- ==== Sys2Proof/Machine/Codec.lean ====
section
/-! DEFINITION. The line codec (1.3 to 1.5): fresh checks, syndromes, chunk classes and stored contents. The codec
holds no state (R13). -/

namespace Sys2Proof.Machine

/-- The byte at position `p` (0 to 7) of a chunk (R1). -/
def byteAt (d : ChunkData) (p : Nat) : Byte := d.extractLsb' (8 * p) 8

/-- The chunk whose byte at position `p` is `f p`. -/
def chunkOfBytes (f : Nat → Byte) : ChunkData :=
  f 7 ++ f 6 ++ f 5 ++ f 4 ++ f 3 ++ f 2 ++ f 1 ++ f 0

/-- The sum of the columns of the data bits that are 1, the first column being that of bit `i`. -/
def columnSum : List Byte → Nat → ChunkData → Byte
  | [], _, _ => 0
  | c :: cs, i, d => (if d.getLsbD i then c else 0) ^^^ columnSum cs (i + 1) d

/-- R8: the check value of 8 data bytes; it depends on them alone. -/
def freshCheck (d : ChunkData) : Byte :=
  Config.code.zeroCheck ^^^ columnSum Config.code.columns 0 d

/-- R14: the fresh check of eight 0x00 bytes combined with the poison syndrome. -/
def poisonCheck : Byte := freshCheck 0 ^^^ Config.code.poison

/-- R9: the difference between the check value computed for the stored data and the one stored. -/
def syndrome (c : StoredChunk) : Byte := freshCheck c.data ^^^ c.check

/-- The bit of the 72 to which a syndrome of one bit error belongs: 0 to 63 a data bit, 64 to 71 a check bit (R9). -/
def errorBit (σ : Byte) : Option Nat :=
  (Config.code.columns ++ Config.checkColumns).findIdx? (· == σ)

/-- R9: the class of a chunk and the data the codec supplies; the class follows from the syndrome alone. -/
def classify (c : StoredChunk) : ChunkResult :=
  if syndrome c = 0 then .clean c.data
  else
    match errorBit (syndrome c) with
    | some i => .corrected (if i < 64 then c.data ^^^ BitVec.twoPow 64 i else c.data)
    | none => if syndrome c = Config.code.poison then .poisoned else .uncorrectable

/-- R9, R11: the line result of a LINE READ that completes with DONE. -/
def classifyLine (stored : StoredLine) : LineResult :=
  perChunk fun c => classify stored[c]

/-- R8, R14: a chunk's content as it goes to memory. -/
def ChunkContent.stored : ChunkContent → StoredChunk
  | .data d => ⟨d, freshCheck d⟩
  | .poison => ⟨0, poisonCheck⟩

/-! ## The summaries of a line result (R11) -/

def ChunkResult.isCorrected : ChunkResult → Bool
  | .corrected _ => true
  | _ => false

def ChunkResult.isUncorrectable : ChunkResult → Bool
  | .uncorrectable => true
  | _ => false

def ChunkResult.isPoisoned : ChunkResult → Bool
  | .poisoned => true
  | _ => false

/-- The data supplied for a CLEAN or CORRECTED chunk (R11). -/
def ChunkResult.supplied : ChunkResult → Option ChunkData
  | .clean d => some d
  | .corrected d => some d
  | .poisoned => none
  | .uncorrectable => none

def correctedChunks (r : LineResult) : List ChunkNumber :=
  chunkNumbers.filter fun c => r[c].isCorrected

def uncorrectableChunks (r : LineResult) : List ChunkNumber :=
  chunkNumbers.filter fun c => r[c].isUncorrectable

/-- The POISONED chunks among those judged. -/
def poisonedAmong (r : LineResult) (judged : List ChunkNumber) : List ChunkNumber :=
  judged.filter fun c => r[c].isPoisoned

/-- What a repair writes in a chunk found so: R65. CLEAN and POISONED chunks are left out. -/
def repairContent : ChunkResult → Option ChunkContent
  | .corrected d => some (.data d)
  | .uncorrectable => some .poison
  | .clean _ => none
  | .poisoned => none

/-- What a copy write stores for a chunk found so (R114). -/
def copyContent : ChunkResult → ChunkContent
  | .clean d => .data d
  | .corrected d => .data d
  | .poisoned => .poison
  | .uncorrectable => .poison

end Sys2Proof.Machine
end

