-- ==== Sys2Proof/Machine/Operands.lean ====
section
/-! DEFINITION. The operand forms of upstream requests: line index and byte offset (R1), enabled bytes, requested,
touched and covered chunks, write class (R3), and the chunk contents of writes (R15, R51, R56, R57). -/

namespace Sys2Proof.Machine

/-- R1: the byte address divided by 64, the remainder discarded. -/
def lineIndex (r : Request) : Nat := r.address.toNat / 64

/-- R1: that remainder. -/
def byteOffset (r : Request) : Nat := r.address.toNat % 64

/-- R24: length 0, length over 64, or bytes past byte offset 63 of the line. -/
def malformed (r : Request) : Bool :=
  r.length == 0 || decide (64 < r.length) || decide (64 < byteOffset r + r.length)

/-- The positions of a byte-enable set that name a byte of the request, with their data: "a position at or beyond the
length … names no byte of the request and is disregarded" (R24). -/
def enabledBytes (length : Nat) (bytes : List (Nat × Byte)) : List (Nat × Byte) :=
  bytes.filter fun b => decide (b.1 < length)

/-- R3: the new byte for byte offset `b` of the line, when `b` is enabled. -/
def newByte (offset : Nat) (bytes : List (Nat × Byte)) (b : Nat) : Option Byte :=
  (bytes.find? fun x => offset + x.1 == b).map (·.2)

/-- R3: a chunk is touched when it holds at least one enabled byte. -/
def touched (offset : Nat) (bytes : List (Nat × Byte)) (c : ChunkNumber) : Bool :=
  (List.range 8).any fun p => (newByte offset bytes (8 * c.val + p)).isSome

/-- R3: a touched chunk all of whose 8 bytes are enabled. -/
def fullyCovered (offset : Nat) (bytes : List (Nat × Byte)) (c : ChunkNumber) : Bool :=
  (List.range 8).all fun p => (newByte offset bytes (8 * c.val + p)).isSome

/-- R3: touched and not fully covered. -/
def partlyCovered (offset : Nat) (bytes : List (Nat × Byte)) (c : ChunkNumber) : Bool :=
  touched offset bytes c && !fullyCovered offset bytes c

def touchedChunks (offset : Nat) (bytes : List (Nat × Byte)) : List ChunkNumber :=
  chunkNumbers.filter (touched offset bytes)

def partlyCoveredChunks (offset : Nat) (bytes : List (Nat × Byte)) : List ChunkNumber :=
  chunkNumbers.filter (partlyCovered offset bytes)

/-- R3: FULL when every touched chunk is fully covered, PARTIAL otherwise. -/
def writeClass (offset : Nat) (bytes : List (Nat × Byte)) : WriteClass :=
  if partlyCoveredChunks offset bytes = [] then .full else .partialWrite

/-- R3: the chunks that hold at least one byte of a READ. -/
def requestedChunks (offset length : Nat) : List ChunkNumber :=
  chunkNumbers.filter fun c => decide (offset < 8 * c.val + 8 ∧ 8 * c.val < offset + length)

/-- R57: enabled positions take the new byte, the others the old byte. -/
def mergeChunk (offset : Nat) (bytes : List (Nat × Byte)) (c : ChunkNumber) (old : ChunkData) : ChunkData :=
  chunkOfBytes fun p => (newByte offset bytes (8 * c.val + p)).getD (byteAt old p)

/-- R51: the content of a FULL write: every touched chunk with its 8 new bytes. -/
def fullContent (offset : Nat) (bytes : List (Nat × Byte)) : List (ChunkNumber × ChunkContent) :=
  (touchedChunks offset bytes).map fun c => (c, .data (mergeChunk offset bytes c 0))

/-- R56: what a PARTIAL write's write phase stores in one chunk, if it is in the chunk set. A partly covered chunk of
a write that proceeds is CLEAN or CORRECTED (R54), so its old bytes are supplied. -/
def partialChunk (offset : Nat) (bytes : List (Nat × Byte)) (r : LineResult) (c : ChunkNumber) :
    Option ChunkContent :=
  if touched offset bytes c then some (.data (mergeChunk offset bytes c (r[c].supplied.getD 0)))
  else repairContent r[c]

/-- R56: the chunk set of the write phase with its contents. -/
def partialContent (offset : Nat) (bytes : List (Nat × Byte)) (r : LineResult) :
    List (ChunkNumber × ChunkContent) :=
  chunkNumbers.filterMap fun c => (partialChunk offset bytes r c).map fun x => (c, x)

/-- R46: the data of a READ answered OK, its bytes in ascending address order. -/
def readData (offset length : Nat) (r : LineResult) : List Byte :=
  (List.range length).map fun i =>
    let b := offset + i
    byteAt ((r[Fin.ofNat 8 (b / 8)].supplied).getD 0) (b % 8)

def EntryOp.isWrite : EntryOp → Bool
  | .read => false
  | .write _ _ => true

end Sys2Proof.Machine
end

