-- ==== Sys2Proof/Machine/Ops.lean ====
section
/-! DEFINITION. The named operations over the state that several families share: the line space, the Remap Table and
the Spare Pool, the hazard rule, answers to entries, the slots. -/

namespace Sys2Proof.Machine

/-- A command begins: what the last one put out is no longer offered (log 7). -/
def State.quiet (s : State) : State := { s with out := .none }

/-- While RESET_N is asserted the block does nothing (R21, R140, R145, R169): no port takes, no tick comes, a
completion is discarded with no event. -/
def State.unlessReset (s : State) (act : State → State) : State :=
  if s.resetPin.asserted then s.quiet else act s.quiet

/-! ## The physical line space (1.2) -/

/-- R4: a power of two. -/
def State.installedLines (s : State) : Nat := 2 ^ s.cfg.installedLog2

/-- R4: VISIBLE_LINES. -/
def State.visibleLines (s : State) : Nat := s.installedLines - s.cfg.spareLines

/-- R5: the physical line of a location. -/
def State.physicalLine (s : State) : Location → Nat
  | .home h => h
  | .spare k => s.visibleLines + k

/-! ## The Remap Table (5.1) -/

def MapEntry.home? : MapEntry → Option Nat
  | .free => none
  | .active home _ => some home
  | .moving home _ _ => some home

/-- The entry numbers in ascending order. -/
def entryNumbers : List EntryNumber := List.finRange 128

/-- R85: the entry, ACTIVE or MOVING, whose home field is `h`. -/
def State.mapIndex (s : State) (h : Nat) : Option EntryNumber :=
  entryNumbers.find? fun i => s.map[i].home? == some h

/-- R85: what a lookup for `h` finds; FREE stands for no entry. -/
def State.lookup (s : State) (h : Nat) : MapEntry :=
  match s.mapIndex h with
  | some i => s.map[i]
  | none => .free

/-- The location an old target names for home line `h` (R84). -/
def OldTarget.location (h : Nat) : OldTarget → Location
  | .home => .home h
  | .spare k => .spare k

/-- R85: the line's current location. -/
def State.currentLocation (s : State) (h : Nat) : Location :=
  match s.lookup h with
  | .free => .home h
  | .active _ k => .spare k
  | .moving _ old _ => old.location h

/-- R87: the line's entry is MOVING. -/
def State.isMoving (s : State) (h : Nat) : Bool :=
  match s.lookup h with
  | .moving _ _ _ => true
  | .free => false
  | .active _ _ => false

/-- R42, 5.1.1: resolution at a grant; a MOVING line is not resolved for an entry, a repair or the scrub read. -/
def State.resolve (s : State) (h : Nat) : Option Location :=
  match s.lookup h with
  | .free => some (.home h)
  | .active _ k => some (.spare k)
  | .moving _ _ _ => none

/-- R86: does this entry make spare `k` the current location of its home line? -/
def MapEntry.livesAt (k : Nat) : MapEntry → Bool
  | .active _ t => t == k
  | .moving _ (.spare a) _ => a == k
  | .moving _ .home _ => false
  | .free => false

/-- R86: the reverse lookup. -/
def State.homeOfSpare (s : State) (k : Nat) : Option Nat :=
  (entryNumbers.find? fun i => s.map[i].livesAt k).bind fun i => s.map[i].home?

/-- R79: the home line whose current location this is. -/
def State.homeOf (s : State) : Location → Option Nat
  | .home h => some h
  | .spare k => s.homeOfSpare k

/-- The lowest-numbered FREE entry (R92, R95). -/
def State.lowestFree (s : State) : Option EntryNumber :=
  entryNumbers.find? fun i => s.map[i] == .free

/-- R98: every entry FREE. -/
def State.mapAllFree (s : State) : Bool :=
  entryNumbers.all fun i => s.map[i] == .free

def State.setMap (s : State) (i : EntryNumber) (e : MapEntry) : State :=
  { s with map := s.map.set i.1 e i.2 }

/-! ## The Spare Pool (5.2) -/

/-- R89: the lowest-numbered AVAILABLE spare. -/
def State.lowestAvailable (s : State) : Option Nat :=
  s.spares.findIdx? (· == .available)

def State.setSpare (s : State) (k : Nat) (v : SpareState) : State :=
  { s with spares := s.spares.set k v }

/-! ## The engine's context (R107) -/

def Engine.migration? : Engine → Option Migration
  | .idle => none
  | .quiesce m => some m
  | .copyRead m _ => some m
  | .copyWrite m _ _ => some m

/-- The old location of a migration (R43, R115). -/
def Migration.oldLocation (m : Migration) : Location := m.old.location m.home

/-! ## The hazard rule (2.7) -/

def Entry.isWrite (e : Entry) : Bool := e.op.isWrite

/-- An entry whose operation is in a slot (R31). -/
def Entry.isIssued (e : Entry) : Bool :=
  e.phase == .issued || e.phase == .issuedWrite

/-- R34 (a) for a READ, or the scrub read, of `home` at `position`: an older WRITE of the line is not finished. -/
def State.hazardA (s : State) (home position : Nat) : Bool :=
  s.tt.any fun o => o.home == home && o.isWrite && decide (o.position < position)

/-- R34 (b) and R37 for a WRITE: an older entry of the line, or the scrub read of the line created before it. -/
def State.hazardB (s : State) (home position : Nat) : Bool :=
  (s.tt.any fun o => o.home == home && decide (o.position < position)) ||
    (s.scrub.read.any fun r => r.home == home && decide (r.position < position))

/-- R34 (c): a repair queued before, or a repair issued whenever it was queued. -/
def State.hazardC (s : State) (home position : Nat) : Bool :=
  (s.repairs.queue.any fun r => r.home == home && decide (r.position < position)) ||
    (s.repairs.issued.any fun r => r.record.home == home)

/-- R34: is the entry held? (d) follows the Remap Table alone. -/
def State.held (s : State) (e : Entry) : Bool :=
  (if e.isWrite then s.hazardB e.home e.position else s.hazardA e.home e.position) ||
    s.hazardC e.home e.position || s.isMoving e.home

/-- R30, R36: the phase of an entry that is not issued follows from the hazards: WAITING while one holds, else READY,
or WRITE_READY between the phases of a PARTIAL write (R58). -/
def State.phaseNow (s : State) (e : Entry) : Phase :=
  if e.isIssued then e.phase
  else if s.held e then .waiting
  else if e.readResult.isSome then .writeReady
  else .ready

/-- R30: every entry that is not issued looks again. -/
def State.relook (s : State) : State :=
  { s with tt := s.tt.map fun e => { e with phase := s.phaseNow e } }

/-- R150: is the PENDING scrub read held by a hazard? -/
def State.scrubHeld (s : State) (r : ScrubRead) : Bool :=
  s.hazardA r.home r.position || s.hazardC r.home r.position || s.isMoving r.home

/-! ## Answers (R19, R33) -/

def State.respond (s : State) (p : Port) (r : Response) : State :=
  match p with
  | .u0 => { s with out := { s.out with u0 := s.out.u0 ++ [r] } }
  | .u1 => { s with out := { s.out with u1 := s.out.u1 ++ [r] } }

/-- The entry of a port that carries a tag (R20). -/
def State.entryOf (s : State) (p : Port) (t : Tag) : Option Entry :=
  s.tt.find? fun e => e.port == p && e.tag == t

def State.removeEntry (s : State) (p : Port) (t : Tag) : State :=
  { s with tt := s.tt.filter fun e => !(e.port == p && e.tag == t) }

def State.updateEntry (s : State) (p : Port) (t : Tag) (f : Entry → Entry) : State :=
  { s with tt := s.tt.map fun e => if e.port == p && e.tag == t then f e else e }

/-- R33: the response goes to the entry's port and the entry is removed. -/
def State.answer (s : State) (e : Entry) (status : ResponseStatus) (data : List Byte) : State :=
  (s.removeEntry e.port e.tag).respond e.port ⟨e.tag, status, data⟩

/-! ## Slots (7.2) -/

def slotNumbers : List SlotNumber := [0, 1, 2, 3, 4, 5, 6, 7]

def State.setSlot (s : State) (n : SlotNumber) (v : Slot) : State :=
  { s with memory := { s.memory with slots := s.memory.slots.set n.1 v n.2 } }

def Slot.isFree : Slot → Bool
  | .free => true
  | .busy _ _ _ _ _ => false
  | .orphaned _ _ _ => false

def Slot.isBusy : Slot → Bool
  | .busy _ _ _ _ _ => true
  | .free => false
  | .orphaned _ _ _ => false

def Slot.isOrphaned : Slot → Bool
  | .orphaned _ _ _ => true
  | .free => false
  | .busy _ _ _ _ _ => false

/-- R130: the lowest-numbered FREE slot. -/
def State.freeSlot (s : State) : Option SlotNumber :=
  slotNumbers.find? fun n => s.memory.slots[n].isFree

def State.busySlots (s : State) : Nat :=
  slotNumbers.countP fun n => s.memory.slots[n].isBusy

def State.orphanedSlots (s : State) : Nat :=
  slotNumbers.countP fun n => s.memory.slots[n].isOrphaned

/-- R111: is a memory-port operation for the line BUSY, by an entry, an issued repair or the scrub read? -/
def State.lineBusy (s : State) (h : Nat) : Bool :=
  (s.tt.any fun e => e.home == h && e.isIssued) ||
    (s.repairs.issued.any fun r => r.record.home == h) ||
    (s.scrub.read.any fun r => r.home == h && r.granted.isSome)

/-- R111: the engine leaves QUIESCE for COPY_READ, issued no, when no operation of its line is BUSY. -/
def State.quiesceEnd (s : State) : State :=
  match s.engine with
  | .quiesce m => if s.lineBusy m.home then s else { s with engine := .copyRead m none }
  | .idle => s
  | .copyRead _ _ => s
  | .copyWrite _ _ _ => s

end Sys2Proof.Machine
end

