-- ==== Sys2Proof/Machine/Arbiter.lean ====
section
/-! DEFINITION. Grants (7.3): who asks, the per-line exclusion, the choice, and the row GRANT. -/

namespace Sys2Proof.Machine

/-- The grant classes (R132); the scrub's promotion is decided by the pass-over count. -/
inductive GrantClass where
  | migration
  | writeBack
  | port
  | scrub
  deriving DecidableEq, Repr

/-- A requester that asks, with the operation it would be granted now (R130, R131). -/
structure Candidate where
  cls       : GrantClass
  requester : Requester
  kind      : OpKind
  location  : Location
  groups    : List (ChunkNumber × ChunkContent)
  deriving DecidableEq, Repr

/-! ## Who asks (R130) -/

/-- R113, R116: the engine asks in COPY_READ and COPY_WRITE with issued no. -/
def State.engineCandidate (s : State) : Option Candidate :=
  match s.engine with
  | .copyRead m none => some ⟨.migration, .copyRead, .lineRead, m.oldLocation, []⟩
  | .copyWrite m none content =>
    some ⟨.migration, .copyWrite, .chunkWrite, .spare m.new, chunkNumbers.map fun c => (c, content[c])⟩
  | .copyRead _ (some _) => none
  | .copyWrite _ (some _) _ => none
  | .idle => none
  | .quiesce _ => none

/-- R44, R45, R51, R53: the operation of a READY entry. -/
def readyOperation (e : Entry) : OpKind × List (ChunkNumber × ChunkContent) :=
  match e.op with
  | .read => (.lineRead, [])
  | .write .full bytes => (.chunkWrite, fullContent e.offset bytes)
  | .write .partialWrite _ => (.lineRead, [])

/-- R56, R58: the content of the write phase of a PARTIAL write. -/
def writePhaseContent (e : Entry) : List (ChunkNumber × ChunkContent) :=
  match e.op, e.readResult with
  | .write _ bytes, some r => partialContent e.offset bytes r
  | .write _ _, none => []
  | .read, _ => []

/-- R31, R42, R44: what an entry asks for, its line resolved as at a grant now. -/
def State.entryCandidate (s : State) (e : Entry) : Option Candidate :=
  match s.resolve e.home with
  | none => none
  | some location =>
    match e.phase with
    | .ready => some ⟨.port, .entry e.port e.tag, (readyOperation e).1, location, (readyOperation e).2⟩
    | .writeReady => some ⟨.writeBack, .entry e.port e.tag, .chunkWrite, location, writePhaseContent e⟩
    | .waiting => none
    | .issued => none
    | .merging => none
    | .issuedWrite => none

/-- R37, R70: does an operation of the line by an entry or by the scrub read keep the head record from asking? -/
def State.repairWaits (s : State) (h : Nat) : Bool :=
  (s.tt.any fun e => e.home == h && e.isIssued) ||
    (s.scrub.read.any fun r => r.home == h && r.granted.isSome)

/-- R70, R71: the head record of the Repair Queue. -/
def State.repairCandidate (s : State) : Option Candidate :=
  match s.repairs.queue with
  | [] => none
  | r :: _ =>
    if s.repairWaits r.home then none
    else (s.resolve r.home).map fun location =>
      ⟨.writeBack, .repair r.home, .chunkWrite, location, r.chunks⟩

/-- R150: the PENDING scrub read while no hazard holds it. -/
def State.scrubCandidate (s : State) : Option Candidate :=
  match s.scrub.read with
  | none => none
  | some r =>
    if r.granted.isSome ∨ s.scrubHeld r then none
    else (s.resolve r.home).map fun location => ⟨.scrub, .scrub, .lineRead, location, []⟩

/-! ## The per-line exclusion (R131) -/

/-- Does a slot hold a candidate of this kind for this physical line? -/
def Slot.excludes (kind : OpKind) (line : Nat) : Slot → Bool
  | .free => false
  | .busy k l _ _ _ => l == line && (kind == .chunkWrite || k == .chunkWrite)
  | .orphaned k l _ => l == line && kind == .chunkWrite && k == .chunkWrite

/-- R130: an asking requester that the exclusion does not hold. -/
def State.eligible (s : State) (c : Candidate) : Bool :=
  slotNumbers.all fun n => !(s.memory.slots[n].excludes c.kind (s.physicalLine c.location))

/-! ## The choice (R132 to R135) -/

/-- The oldest by acceptance order (R28). -/
def oldest : List Entry → Option Entry
  | [] => none
  | e :: es =>
    match oldest es with
    | none => some e
    | some o => if o.position < e.position then some o else some e

/-- The entry's candidate, when it asks and is eligible. -/
def State.eligibleEntry (s : State) (e : Entry) : Option Candidate :=
  (s.entryCandidate e).filter s.eligible

/-- R133: the oldest eligible PARTIAL write phase. -/
def State.writePhaseChoice (s : State) : Option Candidate :=
  (oldest (s.tt.filter fun e => e.phase == .writeReady && (s.eligibleEntry e).isSome)).bind s.eligibleEntry

/-- R134: a port's candidate, its oldest eligible READY entry. -/
def State.portCandidate (s : State) (p : Port) : Option Candidate :=
  (oldest (s.tt.filter fun e => e.port == p && e.phase == .ready && (s.eligibleEntry e).isSome)).bind
    s.eligibleEntry

/-- R134: when both ports offer a candidate, the port not granted last. -/
def State.portChoice (s : State) : Option Candidate :=
  match s.portCandidate .u0, s.portCandidate .u1 with
  | some a, some b => if s.memory.mark = .u0 then some b else some a
  | some a, none => some a
  | none, some b => some b
  | none, none => none

/-- The eligible scrub read. -/
def State.scrubChoice (s : State) : Option Candidate := s.scrubCandidate.filter s.eligible

/-- R135: the scrub read ranks ahead of PORT while its count is 32. -/
def State.promotedScrub (s : State) : Option Candidate :=
  if s.memory.passOver = Config.passOverLimit then s.scrubChoice else none

/-- R132: the first class that holds an eligible requester. Requesters ask in RUNNING and STOPPING: in HALTED there
are none (R159) and in ABORTING "the arbiter makes no grant" (R164); log 12. -/
def State.chooseGrant (s : State) : Option Candidate :=
  if s.service = .running ∨ s.service = .stopping then
    (s.engineCandidate.filter s.eligible).or <|
      s.writePhaseChoice.or <|
        (s.repairCandidate.filter s.eligible).or <|
          s.promotedScrub.or <| s.portChoice.or s.scrubChoice
  else none

/-! ## The grant (R130) -/

/-- R31: an entry records its slot and location and enters its issued phase. -/
def Entry.issue (e : Entry) (kind : OpKind) (n : SlotNumber) (location : Location) : Entry :=
  { e with
    phase := match kind with
      | .lineRead => .issued
      | .chunkWrite => .issuedWrite
    slot := some n
    location := some location }

/-- R71: the head record leaves the queue and becomes an issued repair. -/
def Repairs.issueHead (r : Repairs) (n : SlotNumber) : Repairs :=
  match r.queue with
  | [] => r
  | h :: rest => ⟨rest, r.issued ++ [⟨h, n⟩]⟩

/-- R113, R116: the engine records the slot, and issued becomes yes. -/
def Engine.issue (e : Engine) (n : SlotNumber) : Engine :=
  match e with
  | .copyRead m _ => .copyRead m (some n)
  | .copyWrite m _ content => .copyWrite m (some n) content
  | .idle => .idle
  | .quiesce m => .quiesce m

/-- R130: the requester records its issue by its own rule. -/
def State.recordIssue (s : State) (c : Candidate) (n : SlotNumber) : State :=
  match c.requester with
  | .entry p t => s.updateEntry p t fun e => e.issue c.kind n c.location
  | .repair _ => { s with repairs := s.repairs.issueHead n }
  | .scrub =>
    { s with
      scrub := { s.scrub with
        state := .reading
        read := s.scrub.read.map fun r => { r with granted := some (c.location, n) } } }
  | .copyRead => { s with engine := s.engine.issue n }
  | .copyWrite => { s with engine := s.engine.issue n }

/-- R135: a PORT grant made while the scrub read is asking adds 1, up to 32; a grant of the scrub read returns the
count to 0; other grants leave it. R134: a PORT grant sets the mark to its port. -/
def MemoryPort.account (m : MemoryPort) (c : Candidate) (scrubAsks : Bool) : MemoryPort :=
  match c.cls, c.requester with
  | .port, .entry p _ =>
    { m with mark := p, passOver := if scrubAsks then min Config.passOverLimit (m.passOver + 1) else m.passOver }
  | .scrub, _ => { m with passOver := 0 }
  | _, _ => m

/-- The operation as the controller gets it (R127); contents are formed at the grant (R8). -/
def State.operation (s : State) (c : Candidate) (n : SlotNumber) : Operation :=
  ⟨c.kind, s.physicalLine c.location, n, c.groups.map fun g => (g.1, g.2.stored)⟩

/-- R130: the actions of one grant; entries look again (R36). -/
def State.grantTo (s : State) (c : Candidate) (n : SlotNumber) : State :=
  let s₁ : State := { s with memory := s.memory.account c s.scrubChoice.isSome }
  let s₂ := s₁.setSlot n (.busy c.kind (s.physicalLine c.location) c.location c.requester 0)
  let s₃ : State := { s₂ with out := { s₂.out with memory := s₂.out.memory ++ [s.operation c n] } }
  (s₃.recordIssue c n).relook

/-- One grant, when the three things of R130 hold. -/
def State.grantIfPossible (s : State) (ready : Bool) : State :=
  if ready then
    match s.freeSlot, s.chooseGrant with
    | some n, some c => s.grantTo c n
    | some _, none => s
    | none, _ => s
  else s

/-- GRANT (R130). "As long as the three things still hold, the next grant follows": by the next GRANT (log 13). -/
def execGrant (ready : Bool) (s : State) : Host.Outcome State Fault Refusal :=
  .next (s.unlessReset fun s => s.grantIfPossible ready)

end Sys2Proof.Machine
end

