-- ==== Sys2Proof/Machine/Frame.lean ====
section
/-! DEFINITION. The frames of the management link (11.1, R194, R202): the CRC, the commands with their codes and
arguments, the frame of a command, and what a frame is by R186 and R189. -/

namespace Sys2Proof.Machine

/-- The commands of R194 with their arguments. CONFIGURE carries its item number. -/
inductive LinkCommand where
  | readIdentity
  | readState
  | configure (item : Byte) (value : BitVec 32)
  | readConfig (item : Byte)
  | start
  | stop
  | restart
  | loadMap (home : BitVec 32) (spare : Byte)
  | loadRetired (spare : Byte)
  | requestSpare (home : BitVec 32)
  | readMapEntry (entry : Byte)
  | findMap (home : BitVec 32)
  | readSpare (spare : Byte)
  | readSuspect (position : Byte)
  | readSparingQueue (position : Byte)
  | takeEvent
  | readCounters
  | clearCounters
  deriving DecidableEq, Repr

/-- R187: one bit of the division by x^8+x^2+x+1. -/
def crcBit (c : Byte) : Byte := if c.msb then (c <<< 1) ^^^ 0x07 else c <<< 1

/-- R187: one byte, most significant bit first. -/
def crcByte (c b : Byte) : Byte :=
  crcBit (crcBit (crcBit (crcBit (crcBit (crcBit (crcBit (crcBit (c ^^^ b))))))))

/-- R187: initial value 0, no reflection, no final inversion. -/
def crc8 (bytes : List Byte) : Byte := bytes.foldl crcByte 0

/-- Multi-byte numbers go most significant byte first (R194). -/
def bytes4 (v : BitVec 32) : List Byte :=
  [v.extractLsb' 24 8, v.extractLsb' 16 8, v.extractLsb' 8 8, v.extractLsb' 0 8]

def word4 (a b c d : Byte) : BitVec 32 := a ++ b ++ c ++ d

/-- The codes of R194. -/
def LinkCommand.code : LinkCommand → Byte
  | .readIdentity => 0x01
  | .readState => 0x02
  | .configure _ _ => 0x10
  | .readConfig _ => 0x11
  | .start => 0x20
  | .stop => 0x21
  | .restart => 0x22
  | .loadMap _ _ => 0x30
  | .loadRetired _ => 0x31
  | .requestSpare _ => 0x32
  | .readMapEntry _ => 0x38
  | .findMap _ => 0x39
  | .readSpare _ => 0x3A
  | .readSuspect _ => 0x40
  | .readSparingQueue _ => 0x41
  | .takeEvent => 0x48
  | .readCounters => 0x50
  | .clearCounters => 0x51

/-- The argument bytes of R194. -/
def LinkCommand.args : LinkCommand → List Byte
  | .configure item value => item :: bytes4 value
  | .readConfig item => [item]
  | .loadMap home spare => bytes4 home ++ [spare]
  | .loadRetired spare => [spare]
  | .requestSpare home => bytes4 home
  | .readMapEntry entry => [entry]
  | .findMap home => bytes4 home
  | .readSpare spare => [spare]
  | .readSuspect position => [position]
  | .readSparingQueue position => [position]
  | .readIdentity | .readState | .start | .stop | .restart | .takeEvent | .readCounters | .clearCounters => []

/-- The COMMAND frame of a command on MOSI (R202). -/
def LinkCommand.frame (c : LinkCommand) : List Byte :=
  let body := c.code :: BitVec.ofNat 8 c.args.length :: c.args
  body ++ [crc8 body]

/-- The argument length a command takes (column n of R194); none for a code that names no command. -/
def argumentLength (code : Byte) : Option Nat :=
  match code.toNat with
  | 0x01 => some 0
  | 0x02 => some 0
  | 0x10 => some 5
  | 0x11 => some 1
  | 0x20 => some 0
  | 0x21 => some 0
  | 0x22 => some 0
  | 0x30 => some 5
  | 0x31 => some 1
  | 0x32 => some 4
  | 0x38 => some 1
  | 0x39 => some 4
  | 0x3A => some 1
  | 0x40 => some 1
  | 0x41 => some 1
  | 0x48 => some 0
  | 0x50 => some 0
  | 0x51 => some 0
  | _ => none

/-- The command of a code and its argument bytes; none when they are not as many as the command takes. -/
def decodeCommand (code : Byte) (args : List Byte) : Option LinkCommand :=
  match code.toNat, args with
  | 0x01, [] => some .readIdentity
  | 0x02, [] => some .readState
  | 0x10, [i, a, b, c, d] => some (.configure i (word4 a b c d))
  | 0x11, [i] => some (.readConfig i)
  | 0x20, [] => some .start
  | 0x21, [] => some .stop
  | 0x22, [] => some .restart
  | 0x30, [a, b, c, d, k] => some (.loadMap (word4 a b c d) k)
  | 0x31, [k] => some (.loadRetired k)
  | 0x32, [a, b, c, d] => some (.requestSpare (word4 a b c d))
  | 0x38, [e] => some (.readMapEntry e)
  | 0x39, [a, b, c, d] => some (.findMap (word4 a b c d))
  | 0x3A, [k] => some (.readSpare k)
  | 0x40, [p] => some (.readSuspect p)
  | 0x41, [p] => some (.readSparingQueue p)
  | 0x48, [] => some .takeEvent
  | 0x50, [] => some .readCounters
  | 0x51, [] => some .clearCounters
  | _, _ => none

/-- What a frame is, from its complete bytes on MOSI. -/
inductive FrameKind where
  /-- No complete byte: no effect of any kind (R185). -/
  | silent
  /-- A RESULT frame of this many bytes (R186). -/
  | result (length : Nat)
  /-- R189 test 3, with the frame's first byte as received. -/
  | illFormed (code : Byte)
  /-- R189 test 4. -/
  | unknownCode (code : Byte)
  /-- R189 test 5. -/
  | wrongLength (code : Byte)
  /-- R189 test 6. -/
  | command (c : LinkCommand)
  deriving DecidableEq, Repr

/-- R186: the form of a COMMAND frame after its code byte and its argument length byte. -/
def wellFormedRest (code n : Byte) (rest : List Byte) : Bool :=
  decide (n.toNat ≤ 12) && decide (rest.length = n.toNat + 1) &&
    decide (rest.getLast? = some (crc8 (code :: n :: rest.dropLast)))

/-- R186, R189 tests 3 to 6: what the bytes of a frame are. -/
def frameKind : List Byte → FrameKind
  | [] => .silent
  | [code] => if code = 0x7E then .result 1 else .illFormed code
  | code :: n :: rest =>
    if code = 0x7E then .result (rest.length + 2)
    else if wellFormedRest code n rest then
      match argumentLength code with
      | none => .unknownCode code
      | some _ =>
        match decodeCommand code rest.dropLast with
        | some c => .command c
        | none => .wrongLength code
    else .illFormed code

end Sys2Proof.Machine
end

