-- ==== Sys2Proof/Machine/Layouts.lean ====
section
/-! DEFINITION. The byte layouts the agent sees (11.4, R202). -/

namespace Sys2Proof.Machine

def byteOf (n : Nat) : Byte := BitVec.ofNat 8 n

/-- A number in 4 bytes, most significant first (R194). -/
def number4 (n : Nat) : List Byte := bytes4 (BitVec.ofNat 32 n)

def Status.code : Status → Byte
  | .ok => 0x00
  | .refusedState => 0x01
  | .badArgument => 0x02
  | .inUse => 0x03
  | .queued => 0x04
  | .already => 0x05
  | .full => 0x06
  | .empty => 0x07
  | .notFound => 0x08
  | .badCheck => 0x09
  | .unknown => 0x0A
  | .superseded => 0x0B

def Origin.code : Origin → Nat
  | .u0 => 0
  | .u1 => 1
  | .scrub => 2
  | .migration => 3
  | .memoryPort => 4
  | .management => 5
  | .service => 6

def Reason.code : Reason → Nat
  | .threshold => 0
  | .uncorrectable => 1
  | .command => 2

def Stage.code : Stage → Nat
  | .read => 0
  | .write => 1

def SpareState.code : SpareState → Nat
  | .available => 0
  | .allocated => 1
  | .retired => 2

def ServiceState.code : ServiceState → Nat
  | .halted => 0
  | .running => 1
  | .stopping => 2
  | .aborting => 3

def ResetKind.code : ResetKind → Nat
  | .cold => 0
  | .restart => 1

def Engine.code : Engine → Nat
  | .idle => 0
  | .quiesce _ => 1
  | .copyRead _ _ => 2
  | .copyWrite _ _ _ => 3

def Detail.code : Detail → Nat
  | .spare k => k
  | .stage x => x.code
  | .slot n => n.val
  | .reason r => r.code

/-- A location in 5 bytes: a kind byte, then the line or spare number. -/
def Location.bytes : Location → List Byte
  | .home h => 0 :: number4 h
  | .spare k => 1 :: number4 k

/-- READ IDENTITY (R195): vendor code, part code, revision, capacities. -/
def identityBytes : List Byte :=
  [0x5A, 0x23, 0x40, 1, byteOf Config.tableEntries, byteOf Config.entriesPerPort, byteOf Config.mapEntries,
   byteOf Config.sparingCapacity, byteOf Config.suspectCapacity, byteOf Config.repairCapacity,
   byteOf Config.eventCapacity, byteOf Config.slotCount]

/-- R99: the number of non-FREE entries. -/
def State.nonFreeEntries (s : State) : Nat :=
  entryNumbers.countP fun i => s.map[i] != .free

def State.sparesIn (s : State) (v : SpareState) : Nat := s.spares.countP (· == v)

def State.entriesAt (s : State) (p : Port) : Nat := s.tt.countP fun e => e.port == p

/-- READ STATE (R195, R202): 24 bytes, every field taken in one action. -/
def State.stateBytes (s : State) : List Byte :=
  [byteOf s.service.code, byteOf s.lastReset.code, byteOf s.engine.code,
   if s.engine.migration?.isSome then 1 else 0] ++
  number4 ((s.engine.migration?.map (·.home)).getD 0) ++
  [byteOf s.nonFreeEntries,
   byteOf (s.sparesIn .available), byteOf (s.sparesIn .allocated), byteOf (s.sparesIn .retired),
   byteOf s.sparing.length, byteOf s.suspects.length, byteOf s.repairs.queue.length,
   byteOf s.events.records.length,
   byteOf (s.entriesAt .u0), byteOf (s.entriesAt .u1),
   byteOf s.busySlots, byteOf s.orphanedSlots] ++
  number4 s.scrub.cursor

/-- READ MAP ENTRY (R202). -/
def MapEntry.bytes : MapEntry → List Byte
  | .free => [0] ++ number4 0 ++ [0xFF, 0xFF]
  | .active home target => [1] ++ number4 home ++ [byteOf target, 0xFF]
  | .moving home .home new => [2] ++ number4 home ++ [0xFF, byteOf new]
  | .moving home (.spare a) new => [2] ++ number4 home ++ [byteOf a, byteOf new]

/-- READ SUSPECT (R202). -/
def SuspectRecord.bytes (r : SuspectRecord) : List Byte :=
  r.location.bytes ++ [byteOf r.count, if r.touched then 1 else 0]

/-- READ SPARING QUEUE (R202). -/
def SparingRequest.bytes (r : SparingRequest) : List Byte :=
  number4 r.home ++ [byteOf r.reason.code, byteOf r.origin.code]

/-- The presence byte of an event record (R202). -/
def EventRecord.presence (r : EventRecord) : Byte :=
  (if r.event.location.isSome then 0x01 else 0) ||| (if r.event.chunk.isSome then 0x02 else 0) |||
  (if r.event.chunkCount.isSome then 0x04 else 0) ||| (if r.event.tag.isSome then 0x08 else 0) |||
  (if r.event.detail.isSome then 0x10 else 0) ||| (if r.lost then 0x80 else 0)

/-- TAKE EVENT (R202): 14 bytes; an absent field is sent as 0. -/
def EventRecord.bytes (r : EventRecord) : List Byte :=
  [r.sequence.extractLsb' 8 8, r.sequence.extractLsb' 0 8, byteOf r.event.kind.code,
   byteOf r.event.origin.code, r.presence] ++
  (r.event.location.map Location.bytes).getD [0, 0, 0, 0, 0] ++
  [byteOf ((r.event.chunk.map (·.val)).getD 0), byteOf (r.event.chunkCount.getD 0),
   byteOf ((r.event.tag.map (·.val)).getD 0), byteOf ((r.event.detail.map Detail.code).getD 0)]

/-- The order of R201. -/
def counterOrder : List CounterName :=
  [.correctedReads, .uncorrectableReads, .poisonReads, .repairsWritten, .repairsDropped, .migrationsDone,
   .migrationsFailed, .scrubPasses, .downstreamTimeouts]

/-- READ COUNTERS (R201). -/
def Counters.bytes (c : Counters) : List Byte := counterOrder.flatMap fun n => bytes4 (c.value n)

/-! ## The reply of a RESULT frame (R191) -/

/-- The flags byte: bit 0 overrun, bit 1 previous result unread. -/
def flagsByte (overrun prevUnread : Bool) : Byte :=
  (if overrun then 0x01 else 0) ||| (if prevUnread then 0x02 else 0)

def DrainCommand.code : DrainCommand → Byte
  | .stop => LinkCommand.stop.code
  | .restart => LinkCommand.restart.code

/-- The reply from its slot-state byte through its last result byte (R191). -/
def Link.replyBody (l : Link) : List Byte :=
  match l.slot with
  | .empty => [0, 0x00, 0x00, flagsByte l.overrun false, 0]
  | .executing c _ => [1, c.code, 0x00, flagsByte l.overrun false, 0]
  | .ready r => [2, r.code, r.status.code, flagsByte l.overrun r.prevUnread, byteOf r.bytes.length] ++ r.bytes

/-- The reply with its CRC byte (R187, R191). -/
def Link.reply (l : Link) : List Byte := l.replyBody ++ [crc8 l.replyBody]

/-- MISO over a RESULT frame of `n` bytes: 0x00 for the first byte, then the reply, then 0x00 (R186, R191). -/
def Link.miso (l : Link) (n : Nat) : List Byte :=
  (0x00 :: (l.reply ++ List.replicate n 0x00)).take n

end Sys2Proof.Machine
end

