-- ==== Sys2Proof/Machine/ReadResults.lean ====
section
/-! DEFINITION. What a DONE read hands on (R47, R48, R151): its events and counters, the repair offer (4.1.2), the
suspect update (4.2.2) and the sparing request (6.1). -/

namespace Sys2Proof.Machine

/-- A read that hands on a line result: on whose account, for which line, where it was resolved, and its place in
acceptance order. The tag is present for an upstream entry. -/
structure ReadSource where
  origin   : Origin
  tag      : Option Tag
  home     : Nat
  location : Location
  position : Nat
  deriving DecidableEq, Repr

/-! ## Events and counters of a read (R47) -/

/-- One event over a set of chunks: the lowest chunk and the number of chunks (R47). Nothing for an empty set. -/
def State.reportChunks (s : State) (src : ReadSource) (kind : EventKind) (counter : CounterName)
    (chunks : List ChunkNumber) : State :=
  match chunks with
  | [] => s
  | c :: cs =>
    (s.offer { kind := kind, origin := src.origin, location := some src.location, chunk := some c,
               chunkCount := some (cs.length + 1), tag := src.tag }).bump counter

/-- R47: CORRECTED, UNCORRECTABLE, POISON_READ in that order; the poisoned chunks are those judged by the reader's
rule (requested, partly covered, or none). -/
def State.reportRead (s : State) (src : ReadSource) (r : LineResult) (poisoned : List ChunkNumber) : State :=
  ((s.reportChunks src .corrected .correctedReads (correctedChunks r)).reportChunks
    src .uncorrectable .uncorrectableReads (uncorrectableChunks r)).reportChunks
    src .poisonRead .poisonReads poisoned

/-! ## The Sparing Queue's enqueue rule (R104) -/

inductive SparingOutcome where
  | queued
  | already
  | full
  deriving DecidableEq, Repr

/-- R104: the tests in order, as REQUEST SPARE reports them. -/
def State.sparingOutcome (s : State) (r : SparingRequest) : SparingOutcome :=
  if s.isMoving r.home then .already
  else if s.sparing.any (fun q => q.home == r.home) then .already
  else if Config.sparingCapacity ≤ s.sparing.length then .full
  else .queued

/-- R104: an offered request is dropped, merged, dropped with SPARE_QUEUE_FULL, or appended. -/
def State.offerSparing (s : State) (r : SparingRequest) (tag : Option Tag) : State :=
  match s.sparingOutcome r with
  | .already => s
  | .full =>
    s.offer { kind := .spareQueueFull, origin := r.origin, location := some (s.currentLocation r.home),
              tag := tag, detail := some (.reason r.reason) }
  | .queued => { s with sparing := s.sparing ++ [r] }

/-! ## The Suspect List (4.2) -/

/-- R79: a THRESHOLD request for the home line whose current location the record names. -/
def State.raiseThreshold (s : State) (location : Location) (origin : Origin) (tag : Option Tag) : State :=
  match s.homeOf location with
  | some h => s.offerSparing ⟨h, .threshold, origin⟩ tag
  | none => s

/-- R78: room for one more record: a full list first loses its head. -/
def roomForSuspect (l : List SuspectRecord) : List SuspectRecord :=
  if l.length < Config.suspectCapacity then l else l.drop 1

/-- R76 to R79: one update for a location. -/
def State.suspectUpdate (s : State) (location : Location) (origin : Origin) (tag : Option Tag) : State :=
  let others := s.suspects.filter fun r => r.location != location
  match s.suspects.find? fun r => r.location == location with
  | some r =>
    if r.count + 1 < s.cfg.spareThreshold then
      { s with suspects := others ++ [⟨location, r.count + 1, true⟩] }
    else
      ({ s with suspects := others } : State).raiseThreshold location origin tag
  | none =>
    if s.cfg.spareThreshold ≤ 1 then s.raiseThreshold location origin tag
    else { s with suspects := roomForSuspect s.suspects ++ [⟨location, 1, true⟩] }

/-- R80: aging at a scrub pass end. -/
def ageSuspects (l : List SuspectRecord) : List SuspectRecord :=
  l.filterMap fun r =>
    if r.touched then some { r with touched := false }
    else if r.count ≤ 1 then none
    else some { r with count := r.count - 1, touched := false }

/-! ## The Repair Queue (4.1.2) -/

/-- R65: every CORRECTED chunk with its data, every UNCORRECTABLE chunk as poison. -/
def repairChunks (r : LineResult) : List (ChunkNumber × ChunkContent) :=
  chunkNumbers.filterMap fun c => (repairContent r[c]).map fun x => (c, x)

/-- The content a chunk set gives a chunk. -/
def contentOf (l : List (ChunkNumber × ChunkContent)) (c : ChunkNumber) : Option ChunkContent :=
  (l.find? fun x => x.1 == c).map (·.2)

/-- R67: the union of the sets; for a chunk in both, the offer's content. -/
def mergeChunks (record offer : List (ChunkNumber × ChunkContent)) : List (ChunkNumber × ChunkContent) :=
  chunkNumbers.filterMap fun c => ((contentOf offer c).or (contentOf record c)).map fun x => (c, x)

/-- R66: the cases in which an offer is discarded. -/
def State.discardsRepair (s : State) (src : ReadSource) : Bool :=
  (s.tt.any fun e => e.home == src.home && e.isWrite && decide (src.position < e.position)) ||
    s.isMoving src.home

/-- R66 to R69, in that order, for a chunk set that is not empty. -/
def State.settleRepair (s : State) (src : ReadSource) (chunks : List (ChunkNumber × ChunkContent)) : State :=
  if s.discardsRepair src then s
  else if s.repairs.queue.any (fun r => r.home == src.home) then
    { s with repairs := { s.repairs with queue := s.repairs.queue.map fun r =>
        if r.home == src.home then { r with chunks := mergeChunks r.chunks chunks } else r } }
  else if Config.repairCapacity ≤ s.repairs.queue.length then
    (s.offer { kind := .repairDropped, origin := src.origin, location := some src.location,
               chunk := chunks.head?.map (·.1), chunkCount := some chunks.length, tag := src.tag }).bump
      .repairsDropped
  else
    { s with
      repairs := { s.repairs with queue := s.repairs.queue ++ [⟨src.home, src.location, chunks, s.nextPosition⟩] }
      nextPosition := s.nextPosition + 1 }

/-- R65: the offer is made when REPAIR_ENABLE is on and a chunk is CORRECTED or UNCORRECTABLE. -/
def State.offerRepair (s : State) (src : ReadSource) (r : LineResult) : State :=
  if s.cfg.repairEnable ∧ repairChunks r ≠ [] then s.settleRepair src (repairChunks r) else s

/-! ## The hand-on (R48, R59, R151) -/

/-- R48, R76: the repair offer first (when the read makes one), then the suspect update, then the read's own sparing
request. R76 and 12.2 let a take come between the last two or after them; here it comes after them (DESIGN CHOICE,
log 14). -/
def State.handOn (s : State) (src : ReadSource) (r : LineResult) (repair : Bool) : State :=
  let s₁ := if repair then s.offerRepair src r else s
  let s₂ := if correctedChunks r = [] then s₁ else s₁.suspectUpdate src.location src.origin src.tag
  if uncorrectableChunks r = [] then s₂
  else s₂.offerSparing ⟨src.home, .uncorrectable, src.origin⟩ src.tag

end Sys2Proof.Machine
end

