-- ==== Sys2Proof/Machine/Migrate.lean ====
section
/-! DEFINITION. The Migration Engine (6.2, 5.3): take, commit, revert, the ends of its copy operations, and the row
TAKE. -/

namespace Sys2Proof.Machine

/-- R92: the entry a take makes MOVING, with its old target: the line's ACTIVE entry, or the lowest FREE one. A
MOVING entry for the line cannot be found at a take (R92), and a FREE entry exists (R89). -/
def State.takeEntry (s : State) (h : Nat) : Option (EntryNumber × OldTarget) :=
  match s.mapIndex h with
  | some i =>
    match s.map[i] with
    | .active _ a => some (i, .spare a)
    | .moving _ _ _ => none
    | .free => none
  | none => s.lowestFree.map fun i => (i, .home)

/-- R110 with R92 and R73: allocation, the MOVING entry, the context, the removal of the line's queued repair, then
QUIESCE, left at once when the line is quiet (R111); entries of the line look again (R36). -/
def State.takeWithSpare (s : State) (h : Nat) (i : EntryNumber) (old : OldTarget) (n : Nat) : State :=
  let s₁ := (s.setSpare n .allocated).setMap i (.moving h old n)
  let s₂ : State :=
    { s₁ with
      repairs := { s₁.repairs with queue := s₁.repairs.queue.filter fun r => !(r.home == h) }
      engine := .quiesce ⟨h, i, old, n⟩ }
  s₂.quiesceEnd.relook

/-- R109: no AVAILABLE spare; the request is discarded with NO_SPARE. -/
def State.noSpare (s : State) (r : SparingRequest) : State :=
  s.offer { kind := .noSpare, origin := .migration, location := some (s.currentLocation r.home),
            detail := some (.reason r.reason) }

/-- R108: the three conditions of a take. -/
def State.takeDue (s : State) : Bool :=
  s.engine == .idle && s.service == .running && !s.sparing.isEmpty

/-- R108 to R110: the head request is removed and settled. -/
def State.takeHead (s : State) : State :=
  match s.sparing with
  | [] => s
  | r :: rest =>
    let s' : State := { s with sparing := rest }
    match s'.lowestAvailable with
    | none => s'.noSpare r
    | some n =>
      match s'.takeEntry r.home with
      | none => s'
      | some (i, old) => s'.takeWithSpare r.home i old n

/-- One take, when it is due. -/
def State.takeIfDue (s : State) : State :=
  if s.takeDue then s.takeHead else s

/-- TAKE (R108). -/
def execTake (s : State) : Host.Outcome State Fault Refusal :=
  .next (s.unlessReset State.takeIfDue)

/-! ## Commit and revert (R93, R94) -/

/-- R94: the entry as it was before the take. -/
def Migration.reverted (m : Migration) : MapEntry :=
  match m.old with
  | .home => .free
  | .spare a => .active m.home a

/-- R94: a revert; the new spare becomes AVAILABLE or RETIRED by its cause. Entries held by (d) look again. -/
def State.revert (s : State) (m : Migration) (newSpare : SpareState) : State :=
  let s₁ := (s.setMap m.entry m.reverted).setSpare m.new newSpare
  State.relook { s₁ with engine := .idle }

/-- R93: the old spare, if there is one, becomes RETIRED. -/
def State.retireOld (s : State) : OldTarget → State
  | .home => s
  | .spare a => s.setSpare a .retired

/-- R117: the commit, with R93 and R81. -/
def State.commit (s : State) (m : Migration) : State :=
  let s₁ := (s.setMap m.entry (.active m.home m.new)).retireOld m.old
  let s₂ : State :=
    { s₁ with suspects := s₁.suspects.filter fun r => r.location != m.oldLocation, engine := .idle }
  ((s₂.offer { kind := .spared, origin := .migration, location := some m.oldLocation,
               detail := some (.spare m.new) }).bump .migrationsDone).relook

/-- R115, R118: a copy operation that failed or expired. -/
def State.failMigration (s : State) (m : Migration) (stage : Stage) (newSpare : SpareState) : State :=
  ((s.revert m newSpare).offer { kind := .migrationFailed, origin := .migration,
                                 location := some m.oldLocation, detail := some (.stage stage) }).bump
    .migrationsFailed

/-- The end of the copy read: R114, R115, and R124 in ABORTING. `result` is absent when the read failed or
expired. -/
def State.endCopyRead (s : State) (result : Option LineResult) : State :=
  match s.engine with
  | .copyRead m _ =>
    if s.service = .aborting then s.revert m .available
    else
      match result with
      | some r => { s with engine := .copyWrite m none (perChunk fun c => copyContent r[c]) }
      | none => s.failMigration m .read .available
  | .idle => s
  | .quiesce _ => s
  | .copyWrite _ _ _ => s

/-- The end of the copy write: R117 or R118, in every service state (R124). -/
def State.endCopyWrite (s : State) (done : Bool) : State :=
  match s.engine with
  | .copyWrite m _ _ => if done then s.commit m else s.failMigration m .write .retired
  | .idle => s
  | .quiesce _ => s
  | .copyRead _ _ => s

/-- R124: RESTART settles a migration by its stage; one whose copy operation is issued waits for its end. -/
def State.settleMigration (s : State) : State :=
  match s.engine with
  | .idle => s
  | .quiesce m => s.revert m .available
  | .copyRead m none => s.revert m .available
  | .copyRead _ (some _) => s
  | .copyWrite m none _ => s.revert m .available
  | .copyWrite _ (some _) _ => s

end Sys2Proof.Machine
end

