-- ==== Sys2Proof/Machine/PatrolScrub.lean ====
section
/-! DEFINITION. The patrol scrub (ch. 8): cursor, pass end, the creation and the end of the scrub read, and the row
COUNTDOWN_EXPIRY. -/

namespace Sys2Proof.Machine

/-- R153: a scrub pass end, in order. -/
def State.passEnd (s : State) : State :=
  let s₁ := s.bump .scrubPasses
  let s₂ : State := { s₁ with suspects := ageSuspects s₁.suspects }
  let s₃ := s₂.offer { kind := .scrubPass, origin := .scrub }
  { s₃ with scrub := { s₃.scrub with cursor := 0 } }

/-- R152: the cursor advances by one home line; past the last one the pass ends. -/
def State.advanceCursor (s : State) : State :=
  if s.scrub.cursor + 1 < s.visibleLines then
    { s with scrub := { s.scrub with cursor := s.scrub.cursor + 1 } }
  else s.passEnd

/-- R149: a scrub read is created for the cursor's line, at the next acceptance position, and the scrub is PENDING. -/
def State.createScrubRead (s : State) : State :=
  { s with
    scrub := { s.scrub with state := .pending, read := some ⟨s.scrub.cursor, s.nextPosition, none⟩ }
    nextPosition := s.nextPosition + 1 }

/-- R148: the countdown has reached 0 while it is counted. -/
def State.countdownDue (s : State) : Bool :=
  s.service == .running && s.scrub.state != .off && s.scrub.countdown == 0

/-- R148, R149: the reload, and in WAITING the creation of a read, past the cursor's line when that is MOVING. -/
def State.countdownExpiry (s : State) : State :=
  let s₁ : State := { s with scrub := { s.scrub with countdown := s.cfg.scrubInterval } }
  if s₁.scrub.state = .waiting then
    (if s₁.isMoving s₁.scrub.cursor then s₁.advanceCursor else s₁).createScrubRead
  else s₁

/-- COUNTDOWN_EXPIRY (R149). -/
def execCountdownExpiry (s : State) : Host.Outcome State Fault Refusal :=
  .next (s.unlessReset fun s => if s.countdownDue then s.countdownExpiry else s)

/-- The scrub read ceases: WAITING in RUNNING, OFF otherwise (R151, R154, R155). Entries it held look again. -/
def State.ceaseScrubRead (s : State) : State :=
  State.relook
    { s with scrub := { s.scrub with state := if s.service = .running then .waiting else .off, read := none } }

/-- R151: what the scrub read's line result is handed on as. -/
def ScrubRead.source (r : ScrubRead) (location : Location) : ReadSource :=
  ⟨.scrub, none, r.home, location, r.position⟩

/-- R151, R152, R155: the end of the scrub read. `result` is absent when it failed or expired. -/
def State.endScrubRead (s : State) (result : Option LineResult) : State :=
  match s.scrub.read with
  | some ⟨home, position, some (location, slot)⟩ =>
    if s.service = .aborting then s.ceaseScrubRead
    else
      let src := ScrubRead.source ⟨home, position, some (location, slot)⟩ location
      let s₁ :=
        match result with
        | some r => (s.reportRead src r []).handOn src r true
        | none => s
      s₁.advanceCursor.ceaseScrubRead
  | some ⟨_, _, none⟩ => s
  | none => s

/-- R155: RESTART turns the scrub OFF and removes a PENDING read, whose pass-over count returns to 0 (R135). -/
def State.abandonScrub (s : State) : State :=
  match s.scrub.read with
  | some ⟨_, _, none⟩ =>
    { s with
      scrub := { s.scrub with state := .off, read := none }
      memory := { s.memory with passOver := 0 } }
  | some ⟨_, _, some _⟩ => { s with scrub := { s.scrub with state := .off } }
  | none => { s with scrub := { s.scrub with state := .off } }

/-- R148: START loads the countdown; the scrub is active when SCRUB_INTERVAL is not 0. -/
def State.startScrub (s : State) : State :=
  { s with
    scrub := { s.scrub with
      countdown := s.cfg.scrubInterval
      state := if s.cfg.scrubInterval = 0 then .off else .waiting } }

/-- R154: STOP takes a WAITING scrub to OFF; an outstanding read stays. -/
def State.stopScrub (s : State) : State :=
  if s.scrub.state = .waiting then { s with scrub := { s.scrub with state := .off } } else s

end Sys2Proof.Machine
end

