-- ==== Sys2Proof/Machine/Completions.lean ====
section
/-! DEFINITION. The end of an operation (7.4, 7.5): the rows COMPLETION and SLOT_EXPIRY, and what each requester
does (the table after R138). -/

namespace Sys2Proof.Machine

/-- How an operation ended for its requester: DONE, with the codec's result when it is a LINE READ, or not (FAILED
and expiry have one outcome for every requester, R138). -/
inductive Ending where
  | done (result : LineResult)
  | failure
  deriving DecidableEq, Repr

def Ending.result? : Ending → Option LineResult
  | .done r => some r
  | .failure => none

def Ending.isDone : Ending → Bool
  | .done _ => true
  | .failure => false

/-! ## Upstream entries (ch. 3) -/

/-- R47, R48: on whose account an entry's read is reported; its location was recorded at its grant (R31). -/
def Entry.source (e : Entry) : ReadSource :=
  ⟨portOrigin e.port, some e.tag, e.home, e.location.getD (.home e.home), e.position⟩

/-- R45, R54: POISONED first, then UNCORRECTABLE, else OK, over the chunks that count. -/
def judgeChunks (r : LineResult) (chunks : List ChunkNumber) : ResponseStatus :=
  if chunks.any fun c => r[c].isPoisoned then .errPoison
  else if chunks.any fun c => r[c].isUncorrectable then .errUncorr
  else .ok

/-- R45 to R49: a READ whose LINE READ is DONE. -/
def State.endRead (s : State) (e : Entry) (r : LineResult) : State :=
  let requested := requestedChunks e.offset e.length
  let status := judgeChunks r requested
  let s₁ := s.answer e status (if status = .ok then readData e.offset e.length r else [])
  (s₁.reportRead e.source r (poisonedAmong r requested)).handOn e.source r true

/-- R53 to R59: a PARTIAL write whose read phase is DONE enters MERGING; it is refused and answered, or it keeps its
read result and leaves MERGING by R58 (the phase is decided when entries look again). -/
def State.endReadPhase (s : State) (e : Entry) (bytes : List (Nat × Byte)) (r : LineResult) : State :=
  let partly := partlyCoveredChunks e.offset bytes
  match judgeChunks r partly with
  | .ok =>
    let s₁ := s.updateEntry e.port e.tag fun e =>
      { e with phase := .merging, slot := none, readResult := some r }
    (s₁.reportRead e.source r []).handOn e.source r false
  | status =>
    let s₁ := s.answer e status []
    (s₁.reportRead e.source r (poisonedAmong r partly)).handOn e.source r true

/-- R32: the end of an entry's operation. In ABORTING every end answers ABORTED (R62, R165). -/
def State.endEntry (s : State) (e : Entry) (x : Ending) : State :=
  if s.service = .aborting then s.answer e .aborted []
  else
    match x with
    | .failure => s.answer e .errMemory []
    | .done r =>
      if e.phase = .issued then
        match e.op with
        | .read => s.endRead e r
        | .write _ bytes => s.endReadPhase e bytes r
      else s.answer e .ok []

/-! ## Every requester -/

/-- R72: the repair issued in slot `n` ends; a DONE advances REPAIRS_WRITTEN, in every service state. -/
def State.endRepair (s : State) (n : SlotNumber) (x : Ending) : State :=
  let s₁ : State :=
    { s with repairs := { s.repairs with issued := s.repairs.issued.filter fun r => r.slot != n } }
  if x.isDone then s₁.bump .repairsWritten else s₁

/-- The table after R138: each requester's own rule, then QUIESCE may end (R111) and entries look again (R30). -/
def State.endOperation (s : State) (n : SlotNumber) (q : Requester) (x : Ending) : State :=
  let s₁ :=
    match q with
    | .entry p t =>
      match s.entryOf p t with
      | some e => s.endEntry e x
      | none => s
    | .repair _ => s.endRepair n x
    | .scrub => s.endScrubRead x.result?
    | .copyRead => s.endCopyRead x.result?
    | .copyWrite => s.endCopyWrite x.isDone
  s₁.quiesceEnd.relook

/-- The engine's operations report their failure themselves (R136). -/
def Requester.isEngine : Requester → Bool
  | .copyRead => true
  | .copyWrite => true
  | .entry _ _ => false
  | .repair _ => false
  | .scrub => false

/-- R139, R140: the report of a late completion. -/
def lateCompletion (n : SlotNumber) (location : Option Location) : Event :=
  { kind := .lateCompletion, origin := .memoryPort, location := location, detail := some (.slot n) }

/-- The line a DONE completion of a LINE READ hands to the codec. When the completion carries none (one left over
from before a cold reset, R140), the data are free (log 8). -/
def completedLine (draws : Nat) : Option StoredLine → StoredLine
  | some line => line
  | none => Config.freeLine draws

/-- R136: a completion for a BUSY slot. The slot is FREE in the same action. A CHUNK WRITE returns no data and is
not classified (R12): its requester's rule looks at no result. -/
def State.completeBusy (s : State) (n : SlotNumber) (kind : OpKind) (location : Location) (q : Requester)
    (status : CompletionStatus) : State :=
  let s₁ := s.setSlot n .free
  match status with
  | .done line =>
    let s₂ : State := { s₁ with draws := s₁.draws + if kind = .lineRead ∧ line = none then 1 else 0 }
    s₂.endOperation n q (.done (classifyLine (completedLine s.draws line)))
  | .failed =>
    (if q.isEngine then s₁
     else s₁.offer { kind := .downstreamFailed, origin := .memoryPort, location := some location,
                     detail := some (.slot n) }).endOperation n q .failure

/-- R136, R139, R140: what the bridge does depends on the state of the slot the completion names. -/
def State.complete (s : State) (n : SlotNumber) (status : CompletionStatus) : State :=
  match s.memory.slots[n] with
  | .free => s.offer (lateCompletion n none)
  | .orphaned _ _ location => (s.setSlot n .free).offer (lateCompletion n (some location))
  | .busy kind _ location q _ => s.completeBusy n kind location q status

/-- COMPLETION (R136, R139, R140). While RESET_N is asserted it "is discarded with no event" (R140). -/
def execCompletion (slot : SlotNumber) (status : CompletionStatus) (s : State) :
    Host.Outcome State Fault Refusal :=
  .next (s.unlessReset fun s => s.complete slot status)

/-! ## Expiry (R137) -/

/-- R137: the slot is BUSY, timeouts are on, and its count has reached DOWNSTREAM_TIMEOUT. -/
def State.expiryDue (s : State) (n : SlotNumber) : Bool :=
  match s.memory.slots[n] with
  | .busy _ _ _ _ count => s.cfg.downstreamTimeout != 0 && decide (s.cfg.downstreamTimeout ≤ count)
  | .free => false
  | .orphaned _ _ _ => false

/-- R137: the actions of an expiry, in order. -/
def State.expire (s : State) (n : SlotNumber) : State :=
  match s.memory.slots[n] with
  | .busy kind line location q _ =>
    (((s.setSlot n (.orphaned kind line location)).bump .downstreamTimeouts).offer
      { kind := .downstreamTimeout, origin := .memoryPort, location := some location,
        detail := some (.slot n) }).endOperation n q .failure
  | .free => s
  | .orphaned _ _ _ => s

def State.expireIfDue (s : State) (n : SlotNumber) : State :=
  if s.expiryDue n then s.expire n else s

/-- SLOT_EXPIRY (R137). -/
def execSlotExpiry (slot : SlotNumber) (s : State) : Host.Outcome State Fault Refusal :=
  .next (s.unlessReset fun s => s.expireIfDue slot)

end Sys2Proof.Machine
end

