-- ==== Sys2Proof/Machine/Upstream.lean ====
section
/-! DEFINITION. The upstream ports (2.3): the acceptance tests, the held requests, and the row PRESENTED_REQUEST. -/

namespace Sys2Proof.Machine

def State.heldAt (s : State) : Port → Option Request
  | .u0 => s.ports.heldU0
  | .u1 => s.ports.heldU1

def State.setHeld (s : State) (p : Port) (r : Option Request) : State :=
  match p with
  | .u0 => { s with ports := { s.ports with heldU0 := r } }
  | .u1 => { s with ports := { s.ports with heldU1 := r } }

/-- The outcomes of the acceptance tests, in the table's order (2.3). -/
inductive Verdict where
  | clash
  | hold
  | offline
  | form
  | range
  | emptyWrite
  | accept
  deriving DecidableEq, Repr

/-- R26: a WRITE whose byte-enable set names none of its bytes. -/
def isEmptyWrite (r : Request) : Bool :=
  match r.op with
  | .read => false
  | .write bytes => (enabledBytes r.length bytes).isEmpty

/-- R21: the tests in order; the first that applies decides. -/
def State.judge (s : State) (r : Request) : Verdict :=
  if (s.entryOf r.port r.tag).isSome then .clash
  else if s.service ≠ .running then
    match s.cfg.haltedPolicy with
    | .stall => .hold
    | .refuse => .offline
  else if malformed r then .form
  else if s.visibleLines ≤ lineIndex r then .range
  else if isEmptyWrite r then .emptyWrite
  else .accept

/-- R27: the kind of the new entry, with write class, enabled bytes and their data. -/
def entryOp (r : Request) : EntryOp :=
  match r.op with
  | .read => .read
  | .write bytes =>
    .write (writeClass (byteOffset r) (enabledBytes r.length bytes)) (enabledBytes r.length bytes)

/-- R27, R29: the fields of a new entry, before its phase is decided. -/
def newEntry (r : Request) (position : Nat) : Entry where
  port       := r.port
  tag        := r.tag
  op         := entryOp r
  home       := lineIndex r
  offset     := byteOffset r
  length     := r.length
  position   := position
  phase      := .waiting
  slot       := none
  location   := none
  readResult := none

/-- R27: the entry is created with the next acceptance position, and its phase is decided at once by the hazard
rule. -/
def State.accept (s : State) (r : Request) : State :=
  let e := newEntry r s.nextPosition
  { s with tt := s.tt ++ [{ e with phase := s.phaseNow e }], nextPosition := s.nextPosition + 1 }

/-- The acceptance tests are applied to a port's presented request (R21 to R27). A request that is not held ceases
to be presented. -/
def State.present (s : State) (r : Request) : State :=
  match s.judge r with
  | .clash =>
    (s.setHeld r.port none).offer { kind := .tagClash, origin := portOrigin r.port, tag := some r.tag }
  | .hold => s.setHeld r.port (some r)
  | .offline => (s.setHeld r.port none).respond r.port { tag := r.tag, status := .offline }
  | .form =>
    ((s.setHeld r.port none).respond r.port { tag := r.tag, status := .errForm }).offer
      { kind := .form, origin := portOrigin r.port, tag := some r.tag }
  | .range =>
    ((s.setHeld r.port none).respond r.port { tag := r.tag, status := .errRange }).offer
      { kind := .range, origin := portOrigin r.port, tag := some r.tag }
  | .emptyWrite => (s.setHeld r.port none).respond r.port { tag := r.tag, status := .ok }
  | .accept => (s.setHeld r.port none).accept r

/-- R21: the tests are applied again to the request a port holds. -/
def State.retest (s : State) (p : Port) : State :=
  match s.heldAt p with
  | none => s
  | some r => s.present { r with port := p }

/-- R21, R160: both ports' held requests are tested again. When both hold one, "the two are taken in either order":
the order is free (log 3). -/
def State.retestHeld (s : State) : State :=
  match s.ports.heldU0, s.ports.heldU1 with
  | some _, some _ =>
    let s' := { s with draws := s.draws + 1 }
    match Config.freeFirstPort s.draws with
    | .u0 => (s'.retest .u0).retest .u1
    | .u1 => (s'.retest .u1).retest .u0
  | some _, none => s.retest .u0
  | none, some _ => s.retest .u1
  | none, none => s

/-- PRESENTED_REQUEST (R21). While the port holds its presented request, a request behind it "is not seen by the
bridge" (2.3): no effect (log 11). While RESET_N is asserted "the ports take nothing" (R21): the request stays
presented, untested. -/
def execPresentedRequest (r : Request) (s : State) : Host.Outcome State Fault Refusal :=
  match s.heldAt r.port with
  | some _ => .next s.quiet
  | none =>
    if s.resetPin.asserted then .next (s.quiet.setHeld r.port (some r)) else .next (s.quiet.present r)

end Sys2Proof.Machine
end

