-- ==== Sys2Proof/Machine/Service.lean ====
section
/-! DEFINITION. Service Control (ch. 9): START, STOP, RESTART with their drains, the cold reset, and the rows
COLD_RESET, STOP_DRAIN_COMPLETE and RESTART_DRAIN_COMPLETE. -/

namespace Sys2Proof.Machine

/-- A result is held and the command slot is RESULT_READY (R189). -/
def State.hold (s : State) (code : Byte) (status : Status) (bytes : List Byte) (prevUnread : Bool) : State :=
  { s with link := { s.link with slot := .ready ⟨code, status, bytes, prevUnread⟩ } }

/-- The slot is EXECUTING with a STOP or a RESTART (R189). -/
def State.execute (s : State) (c : DrainCommand) (prevUnread : Bool) : State :=
  { s with link := { s.link with slot := .executing c prevUnread } }

/-- The result of the drain's command becomes ready with OK, with the flag it was taken with (R162, R166, R192). -/
def State.drainResult (s : State) (c : DrainCommand) (code : Byte) : State :=
  match s.link.slot with
  | .executing c' prevUnread => if c' = c then s.hold code .ok [] prevUnread else s
  | .empty => s
  | .ready _ => s

/-! ## START (R160) -/

/-- R160: RUNNING; the scrub is loaded; held requests are tested again; a take when the Sparing Queue holds a
request (log 13). -/
def State.startAction (s : State) : State :=
  State.takeIfDue (State.retestHeld (State.startScrub { s with service := .running }))

/-! ## STOP (R161, R162) -/

/-- R162: the four conditions. -/
def State.stopDrained (s : State) : Bool :=
  s.tt.isEmpty && s.repairs.queue.isEmpty && s.repairs.issued.isEmpty && s.engine == .idle &&
    s.scrub.read.isNone

/-- R162: the completion: HALTED, the result, and held requests tested again (R21). -/
def State.completeStop (s : State) : State :=
  (State.drainResult { s with service := .halted } .stop LinkCommand.stop.code).retestHeld

def State.stopDrainDue (s : State) : Bool := s.service == .stopping && s.stopDrained

def State.completeStopIfDue (s : State) : State :=
  if s.stopDrainDue then s.completeStop else s

/-- R161: STOPPING; a WAITING scrub turns OFF; held requests are tested again; the drain completes at once when its
conditions hold. -/
def State.stopAction (s : State) (prevUnread : Bool) : State :=
  ((State.stopScrub { s with service := .stopping }).execute .stop prevUnread).retestHeld.completeStopIfDue

/-- STOP_DRAIN_COMPLETE (R162). -/
def execStopDrainComplete (s : State) : Host.Outcome State Fault Refusal :=
  .next (s.unlessReset State.completeStopIfDue)

/-! ## RESTART (R164 to R167) -/

/-- Responses produced together for one port "leave in either order" (R19): each is put in at a place that is free
(log 3). -/
def freeOrder {α : Type} : Nat → List α → List α
  | _, [] => []
  | _, [a] => [a]
  | n, a :: b :: l =>
    (freeOrder (n + 1) (b :: l)).insertIdx (Config.freeRank n % ((freeOrder (n + 1) (b :: l)).length + 1)) a

/-- The ABORTED responses of a port's unissued entries (R164). -/
def State.abortedResponses (s : State) (p : Port) : List Response :=
  (s.tt.filter fun e => !e.isIssued && e.port == p).map fun e => ⟨e.tag, .aborted, []⟩

/-- R164: every entry that is not issued is answered ABORTED and removed. -/
def State.abandonEntries (s : State) : State :=
  { s with
    tt := s.tt.filter fun e => e.isIssued
    out := { s.out with
      u0 := s.out.u0 ++ freeOrder s.draws (s.abortedResponses .u0)
      u1 := s.out.u1 ++ freeOrder (s.draws + s.tt.length) (s.abortedResponses .u1) }
    draws := s.draws + 2 * s.tt.length }

/-- R164: every queued repair record is removed. -/
def State.abandonRepairs (s : State) : State :=
  { s with repairs := { s.repairs with queue := [] } }

/-- R164: the actions of the taking of RESTART, in every service state. -/
def State.beginRestart (s : State) : State :=
  State.relook (State.settleMigration (State.abandonScrub (State.abandonRepairs (State.abandonEntries
    { s with service := .aborting }))))

/-- R166: the three conditions. -/
def State.restartDrained (s : State) : Bool :=
  s.tt.isEmpty && s.busySlots == 0 && s.engine == .idle

/-- R166: the completion, in one action. -/
def State.completeRestart (s : State) : State :=
  let s₁ : State :=
    { s with
      service := .halted
      sparing := []
      suspects := []
      scrub := { s.scrub with cursor := 0 }
      lastReset := .restart }
  ((s₁.offer { kind := .restarted, origin := .service }).drainResult .restart
    LinkCommand.restart.code).retestHeld

def State.restartDrainDue (s : State) : Bool := s.service == .aborting && s.restartDrained

def State.completeRestartIfDue (s : State) : State :=
  if s.restartDrainDue then s.completeRestart else s

/-- R164, R167: RESTART is taken; its drain completes at once when its conditions hold. -/
def State.restartAction (s : State) (prevUnread : Bool) : State :=
  (s.beginRestart.execute .restart prevUnread).retestHeld.completeRestartIfDue

/-- RESTART_DRAIN_COMPLETE (R166). -/
def execRestartDrainComplete (s : State) : Host.Outcome State Fault Refusal :=
  .next (s.unlessReset State.completeRestartIfDue)

/-! ## Cold reset (R169) -/

/-- R169: every block at its default. A request presented at a port stays presented (R21, R39); the waiting commands
and the count of draws are the model's own (log 10). -/
def State.atDefault (s : State) (pin : ResetPin) : State :=
  { State.reset with resetPin := pin, ports := s.ports, draws := s.draws, pending := s.pending }

/-- The reset ends: each port's presented request "is tested as a new request" (R21); a frame in progress will not be
taken (R185). -/
def State.endReset (s : State) (frameOpen : Bool) : State :=
  (s.atDefault ⟨false, frameOpen⟩).retestHeld

/-- R169: RESET_N asserted holds every block at its default; the reset ends at its release, which there is only after
an assertion (log 10). -/
def State.coldReset (s : State) : ResetEdge → State
  | .whole frameOpen => s.endReset frameOpen
  | .assertion => s.atDefault ⟨true, false⟩
  | .release frameOpen => if s.resetPin.asserted then s.endReset frameOpen else s.quiet

/-- COLD_RESET (R169). -/
def execColdReset (s : State) (edge : ResetEdge := .whole false) : Host.Outcome State Fault Refusal :=
  .next (s.coldReset edge)

end Sys2Proof.Machine
end

