-- ==== Sys2Proof/Machine/LinkCommands.lean ====
section
/-! DEFINITION. The commands of the management link (11.3): what each does when it is executed at the end of its
frame (R189 test 6), as the state, the status and the result bytes it gives. -/

namespace Sys2Proof.Machine

/-- What an executed command gives: the state, the status and the result bytes. -/
structure Settled where
  state  : State
  status : Status
  bytes  : List Byte := []
  deriving DecidableEq, Repr

/-! ## Snapshots -/

/-- R195. -/
def readIdentity (s : State) : Settled := ⟨s, .ok, identityBytes⟩

/-- R195. -/
def readState (s : State) : Settled := ⟨s, .ok, s.stateBytes⟩

/-! ## Configuration (R196, R197) -/

/-- R196: REFUSED_STATE outside HALTED, BAD_ARGUMENT out of range, IN_USE for a line count while the map or the pool
is in use, otherwise the value is set with its effect. -/
def configured (s : State) (inRange inUse : Bool) (set : State → State) : Settled :=
  if s.service ≠ .halted then ⟨s, .refusedState, []⟩
  else if inRange = false then ⟨s, .badArgument, []⟩
  else if inUse then ⟨s, .inUse, []⟩
  else ⟨set s, .ok, []⟩

/-- R98: a line count is fixed while an entry is not FREE or a spare is not AVAILABLE. -/
def State.lineCountsInUse (s : State) : Bool :=
  !s.mapAllFree || s.spares.any (· != .available)

/-- R98: the pool under the new counts, all AVAILABLE; the Sparing Queue and the Suspect List empty; cursor 0. -/
def State.lineCountChanged (s : State) : State :=
  { s with
    spares := List.replicate s.cfg.spareLines .available
    sparing := []
    suspects := []
    scrub := { s.scrub with cursor := 0 } }

def configureInstalledLines (value : BitVec 32) (s : State) : Settled :=
  configured s (decide (16 ≤ value.toNat ∧ value.toNat ≤ 30)) s.lineCountsInUse fun s =>
    State.lineCountChanged { s with cfg := { s.cfg with installedLog2 := value.toNat } }

def configureSpareLines (value : BitVec 32) (s : State) : Settled :=
  configured s (decide (value.toNat ≤ 128)) s.lineCountsInUse fun s =>
    State.lineCountChanged { s with cfg := { s.cfg with spareLines := value.toNat } }

/-- R82: the Suspect List is cleared. -/
def configureSpareThreshold (value : BitVec 32) (s : State) : Settled :=
  configured s (decide (1 ≤ value.toNat ∧ value.toNat ≤ 15)) false fun s =>
    { s with cfg := { s.cfg with spareThreshold := value.toNat }, suspects := [] }

/-- R146: the microsecond count is set to 0. -/
def configureTickShift (value : BitVec 32) (s : State) : Settled :=
  configured s (decide (value.toNat ≤ 7)) false fun s =>
    { s with cfg := { s.cfg with tickShift := value.toNat }, microseconds := 0 }

def configureScrubInterval (value : BitVec 32) (s : State) : Settled :=
  configured s (decide (value.toNat ≤ 65535)) false fun s =>
    { s with cfg := { s.cfg with scrubInterval := value.toNat } }

def configureDownstreamTimeout (value : BitVec 32) (s : State) : Settled :=
  configured s (decide (value.toNat ≤ 255)) false fun s =>
    { s with cfg := { s.cfg with downstreamTimeout := value.toNat } }

/-- R23: a request held at a port is tested again. -/
def configureHaltedPolicy (value : BitVec 32) (s : State) : Settled :=
  configured s (decide (value.toNat ≤ 1)) false fun s =>
    State.retestHeld { s with cfg := { s.cfg with
      haltedPolicy := if value.toNat = 0 then .stall else .refuse } }

def configureRepairEnable (value : BitVec 32) (s : State) : Settled :=
  configured s (decide (value.toNat ≤ 1)) false fun s =>
    { s with cfg := { s.cfg with repairEnable := decide (value.toNat = 1) } }

def configureEventMask (value : BitVec 32) (s : State) : Settled :=
  configured s (decide (value.toNat ≤ 0xFFFF)) false fun s =>
    { s with cfg := { s.cfg with eventMask := value.setWidth 16 } }

def configureAlertEnable (value : BitVec 32) (s : State) : Settled :=
  configured s (decide (value.toNat ≤ 1)) false fun s =>
    { s with cfg := { s.cfg with alertEnable := decide (value.toNat = 1) } }

/-- R196: CONFIGURE of an item by its number; an item outside 1 to 10 gives BAD_ARGUMENT after the state test. -/
def configure (item : Byte) (value : BitVec 32) (s : State) : Settled :=
  match item.toNat with
  | 1 => configureInstalledLines value s
  | 2 => configureSpareLines value s
  | 3 => configureSpareThreshold value s
  | 4 => configureTickShift value s
  | 5 => configureScrubInterval value s
  | 6 => configureDownstreamTimeout value s
  | 7 => configureHaltedPolicy value s
  | 8 => configureRepairEnable value s
  | 9 => configureEventMask value s
  | 10 => configureAlertEnable value s
  | _ => configured s false false id

/-- R196: the value of an item in the form CONFIGURE takes it. -/
def Configuration.value (c : Configuration) : Nat → Option Nat
  | 1 => some c.installedLog2
  | 2 => some c.spareLines
  | 3 => some c.spareThreshold
  | 4 => some c.tickShift
  | 5 => some c.scrubInterval
  | 6 => some c.downstreamTimeout
  | 7 => some (if c.haltedPolicy = .stall then 0 else 1)
  | 8 => some (if c.repairEnable then 1 else 0)
  | 9 => some c.eventMask.toNat
  | 10 => some (if c.alertEnable then 1 else 0)
  | _ => none

/-- R196. -/
def readConfig (item : Byte) (s : State) : Settled :=
  match s.cfg.value item.toNat with
  | some v => ⟨s, .ok, number4 v⟩
  | none => ⟨s, .badArgument, []⟩

/-! ## Service commands (R198) -/

/-- R160. -/
def start (s : State) : Settled :=
  if s.service = .halted then ⟨s.startAction, .ok, []⟩ else ⟨s, .refusedState, []⟩

/-! ## Map and pool (R95, R96, R99, R199) -/

/-- R95, the tests in order. A FREE entry exists whenever test 4 passes (R89, R95); without one the table could not
hold the mapping, and IN_USE is given (log 12). -/
def loadMap (home : BitVec 32) (spare : Byte) (s : State) : Settled :=
  if s.service ≠ .halted then ⟨s, .refusedState, []⟩
  else if s.visibleLines ≤ home.toNat ∨ s.cfg.spareLines ≤ spare.toNat then ⟨s, .badArgument, []⟩
  else if (s.mapIndex home.toNat).isSome then ⟨s, .inUse, []⟩
  else if s.spares[spare.toNat]? ≠ some .available then ⟨s, .inUse, []⟩
  else
    match s.lowestFree with
    | some i =>
      ⟨(s.setMap i (.active home.toNat spare.toNat)).setSpare spare.toNat .allocated, .ok, [byteOf i.val]⟩
    | none => ⟨s, .inUse, []⟩

/-- R96. -/
def loadRetired (spare : Byte) (s : State) : Settled :=
  if s.service ≠ .halted then ⟨s, .refusedState, []⟩
  else if s.cfg.spareLines ≤ spare.toNat then ⟨s, .badArgument, []⟩
  else
    match s.spares[spare.toNat]? with
    | some .available => ⟨s.setSpare spare.toNat .retired, .ok, []⟩
    | some .allocated => ⟨s, .inUse, []⟩
    | some .retired => ⟨s, .ok, []⟩
    | none => ⟨s, .badArgument, []⟩

/-- R99. -/
def readMapEntry (entry : Byte) (s : State) : Settled :=
  if h : entry.toNat < 128 then ⟨s, .ok, (s.map[entry.toNat]).bytes⟩ else ⟨s, .badArgument, []⟩

/-- R99. -/
def findMap (home : BitVec 32) (s : State) : Settled :=
  if s.visibleLines ≤ home.toNat then ⟨s, .badArgument, []⟩
  else
    match s.mapIndex home.toNat with
    | some i => ⟨s, .ok, [byteOf i.val]⟩
    | none => ⟨s, .notFound, []⟩

/-- R99. -/
def readSpare (spare : Byte) (s : State) : Settled :=
  if s.cfg.spareLines ≤ spare.toNat then ⟨s, .badArgument, []⟩
  else
    match s.spares[spare.toNat]? with
    | some v => ⟨s, .ok, [byteOf v.code]⟩
    | none => ⟨s, .badArgument, []⟩

/-! ## Queues (R105, R83, R106, R200) -/

def SparingOutcome.status : SparingOutcome → Status
  | .queued => .queued
  | .already => .already
  | .full => .full

/-- R105. -/
def requestSpare (home : BitVec 32) (s : State) : Settled :=
  if s.service ≠ .running then ⟨s, .refusedState, []⟩
  else if s.visibleLines ≤ home.toNat then ⟨s, .badArgument, []⟩
  else
    let r : SparingRequest := ⟨home.toNat, .command, .management⟩
    ⟨s.offerSparing r none, (s.sparingOutcome r).status, []⟩

/-- R83, R200. -/
def readSuspect (position : Byte) (s : State) : Settled :=
  if Config.suspectCapacity ≤ position.toNat then ⟨s, .badArgument, []⟩
  else
    match s.suspects[position.toNat]? with
    | some r => ⟨s, .ok, r.bytes⟩
    | none => ⟨s, .empty, []⟩

/-- R106, R200. -/
def readSparingQueue (position : Byte) (s : State) : Settled :=
  if Config.sparingCapacity ≤ position.toNat then ⟨s, .badArgument, []⟩
  else
    match s.sparing[position.toNat]? with
    | some r => ⟨s, .ok, r.bytes⟩
    | none => ⟨s, .empty, []⟩

/-! ## Events and counters (R178, R181, R182, R201) -/

/-- R178: the head record is removed as the command executes; the lost mark stays as it is. -/
def takeEvent (s : State) : Settled :=
  match s.events.records with
  | [] => ⟨s, .empty, []⟩
  | r :: rest => ⟨{ s with events := { s.events with records := rest } }, .ok, r.bytes⟩

/-- R181. -/
def readCounters (s : State) : Settled := ⟨s, .ok, s.counters.bytes⟩

/-- R182. -/
def clearCounters (s : State) : Settled := ⟨{ s with counters := .zero }, .ok, []⟩

end Sys2Proof.Machine
end

