-- ==== Sys2Proof/Machine/ManagementLink.lean ====
section
/-! DEFINITION. The management link (11.1, 11.2): the settlement of frames, delivery of results, and the rows of the
link. -/

namespace Sys2Proof.Machine

/-! ## The settlement of a frame (R189 to R192) -/

/-- R189: the result of an executed command is held. -/
def Settled.held (r : Settled) (code : Byte) (prevUnread : Bool) : State :=
  r.state.hold code r.status r.bytes prevUnread

/-- R161, R198: STOP as the link executes it. -/
def stop (prevUnread : Bool) (s : State) : State :=
  if s.service = .running then s.stopAction prevUnread
  else s.hold LinkCommand.stop.code .refusedState [] prevUnread

/-- R189 test 6: a command is executed at the end of its frame. `prevUnread`: the frame was taken in RESULT_READY
and has discarded a held result. -/
def runCommand (c : LinkCommand) (prevUnread : Bool) (s : State) : State :=
  match c with
  | .readIdentity => (readIdentity s).held c.code prevUnread
  | .readState => (readState s).held c.code prevUnread
  | .configure item value => (configure item value s).held c.code prevUnread
  | .readConfig item => (readConfig item s).held c.code prevUnread
  | .start => (start s).held c.code prevUnread
  | .stop => stop prevUnread s
  | .restart => s.restartAction prevUnread
  | .loadMap home spare => (loadMap home spare s).held c.code prevUnread
  | .loadRetired spare => (loadRetired spare s).held c.code prevUnread
  | .requestSpare home => (requestSpare home s).held c.code prevUnread
  | .readMapEntry entry => (readMapEntry entry s).held c.code prevUnread
  | .findMap home => (findMap home s).held c.code prevUnread
  | .readSpare spare => (readSpare spare s).held c.code prevUnread
  | .readSuspect position => (readSuspect position s).held c.code prevUnread
  | .readSparingQueue position => (readSparingQueue position s).held c.code prevUnread
  | .takeEvent => (takeEvent s).held c.code prevUnread
  | .readCounters => (readCounters s).held c.code prevUnread
  | .clearCounters => (clearCounters s).held c.code prevUnread

/-- R190: a frame ignored under test 1. -/
def State.ignoreFrame (s : State) : State :=
  { s with link := { s.link with overrun := true } }

/-- R192: a RESTART taken while the slot is EXECUTING: it supersedes a STOP, and is absorbed by a RESTART. -/
def State.restartWhileExecuting (s : State) : DrainCommand → State
  | .stop => s.restartAction true
  | .restart => s

/-- R189 tests 3 to 6, for a frame taken in EMPTY or RESULT_READY. -/
def settleTaken (k : FrameKind) (prevUnread : Bool) (s : State) : State :=
  match k with
  | .illFormed code => s.hold code .badCheck [] prevUnread
  | .unknownCode code => s.hold code .unknown [] prevUnread
  | .wrongLength code => s.hold code .badArgument [] prevUnread
  | .command c => runCommand c prevUnread s
  | .silent => s
  | .result _ => s

/-- R189: a COMMAND frame is settled at its end by the first test that applies. -/
def settleFrame (k : FrameKind) (s : State) : State :=
  match s.link.slot with
  | .executing running _ =>
    if k = .command .restart then s.restartWhileExecuting running else s.ignoreFrame
  | .empty => settleTaken k false s
  | .ready _ => settleTaken k true s

/-- R186: MISO carries 0x00 throughout a COMMAND frame. -/
def State.zeroMiso (s : State) (n : Nat) : State :=
  { s with out := { s.out with miso := List.replicate n 0x00 } }

/-- R191: a RESULT frame of `n` bytes. The reply is that of the slot state at its first byte; a held result is
delivered when the frame reaches the reply's CRC byte (`7 + m` bytes): the slot becomes EMPTY and the overrun mark
is cleared. -/
def State.resultFrame (s : State) (n : Nat) : State :=
  let s₁ : State := { s with out := { s.out with miso := s.link.miso n } }
  match s.link.slot with
  | .ready r => if 7 + r.bytes.length ≤ n then { s₁ with link := ⟨.empty, false⟩ } else s₁
  | .empty => s₁
  | .executing _ _ => s₁

/-- R185: a frame of `n` bytes ends. "While RESET_N is asserted, the link takes no frame", nor one "whose CS_N fell
before the reset ended"; MISO carries 0x00 through such a frame (log 10). Any other frame is taken. -/
def State.frameEnds (s : State) (n : Nat) (take : State → State) : State :=
  if s.resetPin.asserted then s.quiet.zeroMiso n
  else if s.resetPin.openFrame then { s.quiet.zeroMiso n with resetPin := ⟨false, false⟩ }
  else take s.quiet

/-- A frame by its complete bytes on MOSI (R185, R186): nothing, a RESULT frame, or a COMMAND frame. -/
def takeFrame (bytes : List Byte) (s : State) : State :=
  s.frameEnds bytes.length fun s =>
    match frameKind bytes with
    | .silent => s
    | .result n => s.resultFrame n
    | k => settleFrame k (s.zeroMiso bytes.length)

/-- The frame of a command, well formed and with its own argument length (R186, R194). -/
def takeCommand (c : LinkCommand) (s : State) : State :=
  s.frameEnds c.frame.length fun s => settleFrame (.command c) (s.zeroMiso c.frame.length)

/-! ## The rows -/

/-- READ_IDENTITY (R195). -/
def execReadIdentity (s : State) : Host.Outcome State Fault Refusal := .next (takeCommand .readIdentity s)

/-- READ_STATE (R195). -/
def execReadState (s : State) : Host.Outcome State Fault Refusal := .next (takeCommand .readState s)

/-- CONFIGURE item 1 (R98, R196). -/
def execConfigureInstalledLines (value : BitVec 32) (s : State) : Host.Outcome State Fault Refusal :=
  .next (takeCommand (.configure 1 value) s)

/-- CONFIGURE item 2 (R98, R196). -/
def execConfigureSpareLines (value : BitVec 32) (s : State) : Host.Outcome State Fault Refusal :=
  .next (takeCommand (.configure 2 value) s)

/-- CONFIGURE item 3 (R82, R196). -/
def execConfigureSpareThreshold (value : BitVec 32) (s : State) : Host.Outcome State Fault Refusal :=
  .next (takeCommand (.configure 3 value) s)

/-- CONFIGURE item 4 (R146, R196). -/
def execConfigureTickShift (value : BitVec 32) (s : State) : Host.Outcome State Fault Refusal :=
  .next (takeCommand (.configure 4 value) s)

/-- CONFIGURE item 5 (R148, R196). -/
def execConfigureScrubInterval (value : BitVec 32) (s : State) : Host.Outcome State Fault Refusal :=
  .next (takeCommand (.configure 5 value) s)

/-- CONFIGURE item 6 (R143, R196). -/
def execConfigureDownstreamTimeout (value : BitVec 32) (s : State) : Host.Outcome State Fault Refusal :=
  .next (takeCommand (.configure 6 value) s)

/-- CONFIGURE item 7 (R23, R196). -/
def execConfigureHaltedPolicy (value : BitVec 32) (s : State) : Host.Outcome State Fault Refusal :=
  .next (takeCommand (.configure 7 value) s)

/-- CONFIGURE item 8 (R65, R196). -/
def execConfigureRepairEnable (value : BitVec 32) (s : State) : Host.Outcome State Fault Refusal :=
  .next (takeCommand (.configure 8 value) s)

/-- CONFIGURE item 9 (R174, R196). -/
def execConfigureEventMask (value : BitVec 32) (s : State) : Host.Outcome State Fault Refusal :=
  .next (takeCommand (.configure 9 value) s)

/-- CONFIGURE item 10 (R183, R196). -/
def execConfigureAlertEnable (value : BitVec 32) (s : State) : Host.Outcome State Fault Refusal :=
  .next (takeCommand (.configure 10 value) s)

/-- READ_CONFIG (R196). -/
def execReadConfig (item : Byte) (s : State) : Host.Outcome State Fault Refusal :=
  .next (takeCommand (.readConfig item) s)

/-- START (R160). -/
def execStart (s : State) : Host.Outcome State Fault Refusal := .next (takeCommand .start s)

/-- STOP (R161). -/
def execStop (s : State) : Host.Outcome State Fault Refusal := .next (takeCommand .stop s)

/-- RESTART (R164, R192). -/
def execRestart (s : State) : Host.Outcome State Fault Refusal := .next (takeCommand .restart s)

/-- LOAD_MAP (R95). -/
def execLoadMap (home : BitVec 32) (spare : Byte) (s : State) : Host.Outcome State Fault Refusal :=
  .next (takeCommand (.loadMap home spare) s)

/-- LOAD_RETIRED (R96). -/
def execLoadRetired (spare : Byte) (s : State) : Host.Outcome State Fault Refusal :=
  .next (takeCommand (.loadRetired spare) s)

/-- REQUEST_SPARE (R105). -/
def execRequestSpare (home : BitVec 32) (s : State) : Host.Outcome State Fault Refusal :=
  .next (takeCommand (.requestSpare home) s)

/-- READ_MAP_ENTRY (R99). -/
def execReadMapEntry (entry : Byte) (s : State) : Host.Outcome State Fault Refusal :=
  .next (takeCommand (.readMapEntry entry) s)

/-- FIND_MAP (R99). -/
def execFindMap (home : BitVec 32) (s : State) : Host.Outcome State Fault Refusal :=
  .next (takeCommand (.findMap home) s)

/-- READ_SPARE (R99). -/
def execReadSpare (spare : Byte) (s : State) : Host.Outcome State Fault Refusal :=
  .next (takeCommand (.readSpare spare) s)

/-- READ_SUSPECT (R83). -/
def execReadSuspect (position : Byte) (s : State) : Host.Outcome State Fault Refusal :=
  .next (takeCommand (.readSuspect position) s)

/-- READ_SPARING_QUEUE (R106). -/
def execReadSparingQueue (position : Byte) (s : State) : Host.Outcome State Fault Refusal :=
  .next (takeCommand (.readSparingQueue position) s)

/-- TAKE_EVENT (R178). -/
def execTakeEvent (s : State) : Host.Outcome State Fault Refusal := .next (takeCommand .takeEvent s)

/-- READ_COUNTERS (R181). -/
def execReadCounters (s : State) : Host.Outcome State Fault Refusal := .next (takeCommand .readCounters s)

/-- CLEAR_COUNTERS (R182). -/
def execClearCounters (s : State) : Host.Outcome State Fault Refusal := .next (takeCommand .clearCounters s)

/-- BAD_CHECK (R189 test 3): the frame's bytes decide. -/
def execBadCheck (frame : List Byte) (s : State) : Host.Outcome State Fault Refusal :=
  .next (takeFrame frame s)

/-- UNKNOWN (R189 test 4): the frame's bytes decide. -/
def execUnknown (frame : List Byte) (s : State) : Host.Outcome State Fault Refusal :=
  .next (takeFrame frame s)

/-- OVERRUN (R189 test 1, R190): the frame's bytes and the slot decide. -/
def execOverrun (frame : List Byte) (s : State) : Host.Outcome State Fault Refusal :=
  .next (takeFrame frame s)

/-- RESULT_FRAME (R191). A frame with no complete byte has no effect of any kind (R185). -/
def execResultFrame (length : Nat) (s : State) : Host.Outcome State Fault Refusal :=
  .next (s.frameEnds length fun s => if length = 0 then s else s.resultFrame length)

/-- BAD_ARGUMENT_LENGTH (R189 test 5): the frame's bytes decide. -/
def execBadArgumentLength (frame : List Byte) (s : State) : Host.Outcome State Fault Refusal :=
  .next (takeFrame frame s)

end Sys2Proof.Machine
end

