-- ==== Sys2Proof/Machine/Timebase.lean ====
section
/-! DEFINITION. The timebase (8.1): the tick, the microsecond base, and the row TICK. -/

namespace Sys2Proof.Machine

/-! ## What falls due before time passes (log 4) -/

/-- R109: "the next take follows at once", one for each request at most. -/
def State.takesDue : Nat → State → State
  | 0, s => s
  | n + 1, s => State.takesDue n s.takeIfDue

/-- R137: the expiries that are due, by slot number. -/
def State.expireAllDue (s : State) : State :=
  slotNumbers.foldl State.expireIfDue s

/-- The internal events that the rules make at the moment they fall due and that no command has ordered before
another: they are made before time passes (R108, R137, R148, R162, R166; the order is the model's, log 4). -/
def State.settleDue (s : State) : State :=
  let s₁ := s.expireAllDue
  let s₂ := if s₁.countdownDue then s₁.countdownExpiry else s₁
  let s₃ := s₂.completeStopIfDue.completeRestartIfDue
  State.takesDue s₃.sparing.length s₃

/-! ## The tick (R146) -/

/-- R137: a tick adds 1 to the count of a BUSY slot. -/
def Slot.tick : Slot → Slot
  | .busy kind line location q count => .busy kind line location q (count + 1)
  | .free => .free
  | .orphaned kind line location => .orphaned kind line location

/-- R137, R143: the counts of the BUSY slots, while DOWNSTREAM_TIMEOUT is not 0. -/
def State.tickSlots (s : State) : State :=
  if s.cfg.downstreamTimeout = 0 then s
  else { s with memory := { s.memory with slots := perChunk fun n => (s.memory.slots[n]).tick } }

/-- R146, R148: the countdown, in WAITING, PENDING and READING while RUNNING. -/
def State.tickCountdown (s : State) : State :=
  if s.service = .running ∧ s.scrub.state ≠ .off then
    { s with scrub := { s.scrub with countdown := s.scrub.countdown - 1 } }
  else s

/-- R145: at the tick the microsecond count has returned to 0. -/
def State.emitTick (s : State) : State :=
  let s₁ := s.tickSlots.tickCountdown
  { s₁ with microseconds := 0 }

/-- TICK (R145): the rest of the tick period has passed and the tick is emitted. What was due before it is settled
first (log 4). -/
def execTick (s : State) : Host.Outcome State Fault Refusal :=
  .next (s.unlessReset fun s => s.settleDue.emitTick)

/-- R145: one microsecond of the base passes; when the count would pass 2^TICK_SHIFT−1 it returns to 0 and a tick is
emitted. This is what the block does while no command waits (log 5). While RESET_N is asserted the count is held. -/
def State.microsecond (s : State) : State :=
  s.unlessReset fun s =>
    let s₁ := s.settleDue
    if s₁.microseconds + 1 < 2 ^ s₁.cfg.tickShift then { s₁ with microseconds := s₁.microseconds + 1 }
    else s₁.emitTick

end Sys2Proof.Machine
end

