-- ==== Sys2Proof/Machine/Dispatch.lean ====
section
/-! DEFINITION. One arm for each command: a direct call of its meaning. -/

namespace Sys2Proof.Machine

/-- A command's effect on everything but the queue of waiting commands. -/
def exec (i : Instr) (s : State) : Host.Outcome State Fault Refusal :=
  match i with
  | .coldReset edge => Sys2Proof.Machine.execColdReset s edge
  | .presentedRequest r => Sys2Proof.Machine.execPresentedRequest r s
  | .grant ready => Sys2Proof.Machine.execGrant ready s
  | .completion slot status => Sys2Proof.Machine.execCompletion slot status s
  | .tick => Sys2Proof.Machine.execTick s
  | .slotExpiry slot => Sys2Proof.Machine.execSlotExpiry slot s
  | .countdownExpiry => Sys2Proof.Machine.execCountdownExpiry s
  | .take => Sys2Proof.Machine.execTake s
  | .stopDrainComplete => Sys2Proof.Machine.execStopDrainComplete s
  | .restartDrainComplete => Sys2Proof.Machine.execRestartDrainComplete s
  | .readIdentity => Sys2Proof.Machine.execReadIdentity s
  | .readState => Sys2Proof.Machine.execReadState s
  | .configureInstalledLines value => Sys2Proof.Machine.execConfigureInstalledLines value s
  | .configureSpareLines value => Sys2Proof.Machine.execConfigureSpareLines value s
  | .configureSpareThreshold value => Sys2Proof.Machine.execConfigureSpareThreshold value s
  | .configureTickShift value => Sys2Proof.Machine.execConfigureTickShift value s
  | .configureScrubInterval value => Sys2Proof.Machine.execConfigureScrubInterval value s
  | .configureDownstreamTimeout value => Sys2Proof.Machine.execConfigureDownstreamTimeout value s
  | .configureHaltedPolicy value => Sys2Proof.Machine.execConfigureHaltedPolicy value s
  | .configureRepairEnable value => Sys2Proof.Machine.execConfigureRepairEnable value s
  | .configureEventMask value => Sys2Proof.Machine.execConfigureEventMask value s
  | .configureAlertEnable value => Sys2Proof.Machine.execConfigureAlertEnable value s
  | .readConfig item => Sys2Proof.Machine.execReadConfig item s
  | .start => Sys2Proof.Machine.execStart s
  | .stop => Sys2Proof.Machine.execStop s
  | .restart => Sys2Proof.Machine.execRestart s
  | .loadMap home spare => Sys2Proof.Machine.execLoadMap home spare s
  | .loadRetired spare => Sys2Proof.Machine.execLoadRetired spare s
  | .requestSpare home => Sys2Proof.Machine.execRequestSpare home s
  | .readMapEntry entry => Sys2Proof.Machine.execReadMapEntry entry s
  | .findMap home => Sys2Proof.Machine.execFindMap home s
  | .readSpare spare => Sys2Proof.Machine.execReadSpare spare s
  | .readSuspect position => Sys2Proof.Machine.execReadSuspect position s
  | .readSparingQueue position => Sys2Proof.Machine.execReadSparingQueue position s
  | .takeEvent => Sys2Proof.Machine.execTakeEvent s
  | .readCounters => Sys2Proof.Machine.execReadCounters s
  | .clearCounters => Sys2Proof.Machine.execClearCounters s
  | .badCheck frame => Sys2Proof.Machine.execBadCheck frame s
  | .unknown frame => Sys2Proof.Machine.execUnknown frame s
  | .overrun frame => Sys2Proof.Machine.execOverrun frame s
  | .resultFrame length => Sys2Proof.Machine.execResultFrame length s
  | .badArgumentLength frame => Sys2Proof.Machine.execBadArgumentLength frame s

end Sys2Proof.Machine
end

