-- ==== Sys2Proof/Machine/Step.lean ====
section
/-! DEFINITION. One step: the command at the front of the queue, or a microsecond while none waits. -/

namespace Sys2Proof.Machine

/-- A step takes the command at the front and answers its outcome with the queue's rest. On an empty queue one
microsecond of the 1 µs base passes (R145, log 5). -/
def step (s : State) : Host.Outcome State Fault Refusal :=
  match s.pending with
  | [] => .next s.microsecond
  | c :: rest => exec c { s with pending := rest }

/-- The command that a table word spells is put at the front of the queue; no row of the table gives bits, so no word
spells one and commands are put in the queue from outside (log 2). -/
def State.withFetchWord (s : State) (nbits w : Nat) : State :=
  match decodeTableWord nbits w with
  | some c => { s with pending := c :: s.pending }
  | none => s

end Sys2Proof.Machine
end

