-- ==== Sys2Proof/Safety.lean ====
section
/-! DEFINITION. What a sound state of the bridge is: the laws the spec states of its collections, written as
decidable propositions, each meant to be kept by every step; and the words the statements use. -/

namespace Sys2Proof.Machine

/-! ## Configuration and capacities -/

/-- The ranges of R196. -/
abbrev ConfigLaw (s : State) : Prop :=
  16 ≤ s.cfg.installedLog2 ∧ s.cfg.installedLog2 ≤ 30 ∧ s.cfg.spareLines ≤ 128 ∧
  1 ≤ s.cfg.spareThreshold ∧ s.cfg.spareThreshold ≤ 15 ∧ s.cfg.tickShift ≤ 7 ∧
  s.cfg.scrubInterval ≤ 65535 ∧ s.cfg.downstreamTimeout ≤ 255

/-- The capacities of R64, R75, R102, R176 and the range of R135. -/
abbrev CapacityLaw (s : State) : Prop :=
  s.repairs.queue.length ≤ 4 ∧ s.suspects.length ≤ 32 ∧ s.sparing.length ≤ 8 ∧
  s.events.records.length ≤ 16 ∧ s.memory.passOver ≤ 32

/-! ## The Transaction Table -/

/-- R20: within each port the tags held are distinct. -/
abbrev TagLaw (s : State) : Prop :=
  s.tt.Pairwise fun a b => a.port ≠ b.port ∨ a.tag ≠ b.tag

/-- R28: what holds a place in acceptance order was placed before what comes next, and the entries stand in that
order. -/
abbrev OrderLaw (s : State) : Prop :=
  (∀ e ∈ s.tt, e.position < s.nextPosition) ∧
  (∀ r ∈ s.repairs.queue, r.position < s.nextPosition) ∧
  (∀ r ∈ s.scrub.read, r.position < s.nextPosition) ∧
  s.tt.Pairwise fun a b => a.position < b.position

/-- R30, R34, R36: the phase of every entry is the one the hazard rule gives it. -/
abbrev PhaseLaw (s : State) : Prop := ∀ e ∈ s.tt, e.phase = s.phaseNow e

/-! ## The memory port -/

/-- May two slots hold what they hold together (R131)? -/
def Slot.compatible : Slot → Slot → Bool
  | .busy k l _ _ _, .busy k' l' _ _ _ => l != l' || (k == .lineRead && k' == .lineRead)
  | .busy _ _ _ _ _, .free => true
  | .busy _ _ _ _ _, .orphaned _ _ _ => true
  | .free, _ => true
  | .orphaned _ _ _, _ => true

/-- R131: no two BUSY operations are addressed to the same physical line unless both are line reads. -/
abbrev ExclusionLaw (s : State) : Prop :=
  ∀ m n : SlotNumber, m ≠ n → s.memory.slots[m].compatible s.memory.slots[n] = true

/-- The requester that waits for the operation of a slot. -/
def Slot.requester? : Slot → Option Requester
  | .busy _ _ _ q _ => some q
  | .free => none
  | .orphaned _ _ _ => none

/-- The slot of the engine's issued operation, with the requester it is (R107). -/
def Engine.issued? : Engine → Option (Requester × SlotNumber)
  | .copyRead _ (some n) => some (.copyRead, n)
  | .copyWrite _ (some n) _ => some (.copyWrite, n)
  | .copyRead _ none => none
  | .copyWrite _ none _ => none
  | .idle => none
  | .quiesce _ => none

/-- Does the requester wait for the operation in slot `n`? -/
def State.waitsFor (s : State) (n : SlotNumber) : Requester → Bool
  | .entry p t => s.tt.any fun e => e.port == p && e.tag == t && e.isIssued && e.slot == some n
  | .repair h => s.repairs.issued.any fun r => r.record.home == h && r.slot == n
  | .scrub => s.scrub.read.any fun r => r.granted.map (·.2) == some n
  | .copyRead => s.engine.issued? == some (.copyRead, n)
  | .copyWrite => s.engine.issued? == some (.copyWrite, n)

/-- R129, R159: every BUSY slot has a requester that waits for it, and whatever waits has its slot BUSY. -/
abbrev SlotLaw (s : State) : Prop :=
  (∀ n : SlotNumber, ∀ q ∈ s.memory.slots[n].requester?, s.waitsFor n q = true) ∧
  (∀ e ∈ s.tt, e.isIssued = true →
    ∃ n : SlotNumber, e.slot = some n ∧ s.memory.slots[n].requester? = some (.entry e.port e.tag)) ∧
  (∀ r ∈ s.repairs.issued, s.memory.slots[r.slot].requester? = some (.repair r.record.home)) ∧
  (∀ r ∈ s.scrub.read, ∀ g ∈ r.granted, s.memory.slots[g.2].requester? = some .scrub) ∧
  (∀ x ∈ s.engine.issued?, s.memory.slots[x.2].requester? = some x.1)

/-! ## The queues and the lists -/

/-- R64: no two queued records have the same home line. -/
abbrev RepairLaw (s : State) : Prop :=
  s.repairs.queue.Pairwise fun a b => a.home ≠ b.home

/-- R75: no two records have the same location; counts run from 1 to SPARE_THRESHOLD−1. -/
abbrev SuspectLaw (s : State) : Prop :=
  (s.suspects.Pairwise fun a b => a.location ≠ b.location) ∧
  ∀ r ∈ s.suspects, 1 ≤ r.count ∧ r.count < s.cfg.spareThreshold

/-- R102: no two requests for the same home line, and none for the home line of a MOVING entry. -/
abbrev SparingLaw (s : State) : Prop :=
  (s.sparing.Pairwise fun a b => a.home ≠ b.home) ∧
  ∀ r ∈ s.sparing, s.isMoving r.home = false

/-- R176, R177: a stored record follows the one before it by 1 unless it says that events were lost. -/
def chained : List EventRecord → Bool
  | [] => true
  | [_] => true
  | a :: b :: l => (b.lost || b.sequence == a.sequence + 1) && chained (b :: l)

/-- R177: the records of the queue are chained, and so is the next one to be stored. -/
abbrev SequenceLaw (s : State) : Prop :=
  chained s.events.records = true ∧
  ∀ r ∈ s.events.records.getLast?, s.events.lost = false → s.events.sequence = r.sequence + 1

/-! ## The Remap Table and the Spare Pool -/

/-- The spares an entry names (R88). -/
def MapEntry.names : MapEntry → List Nat
  | .free => []
  | .active _ k => [k]
  | .moving _ .home n => [n]
  | .moving _ (.spare a) n => [a, n]

def MapEntry.isMoving : MapEntry → Bool
  | .moving _ _ _ => true
  | .free => false
  | .active _ _ => false

def State.namedSpares (s : State) : List Nat := entryNumbers.flatMap fun i => s.map[i].names

/-- R85: no home line is named by more than one entry. -/
abbrev HomesLaw (s : State) : Prop :=
  ∀ i j : EntryNumber, i ≠ j → s.map[i].home? = none ∨ s.map[i].home? ≠ s.map[j].home?

/-- R88: one state for each spare; an ALLOCATED spare is named exactly once, an AVAILABLE or RETIRED one never. -/
abbrev PoolLaw (s : State) : Prop :=
  s.spares.length = s.cfg.spareLines ∧ s.namedSpares.Nodup ∧
  (∀ k ∈ s.namedSpares, s.spares[k]? = some .allocated) ∧
  ∀ k < s.spares.length, s.spares[k]? = some .allocated → k ∈ s.namedSpares

/-- R87, R107: an entry is MOVING exactly when the engine is not IDLE, and the context agrees with it. -/
abbrev EngineLaw (s : State) : Prop :=
  match s.engine.migration? with
  | none => ∀ i : EntryNumber, s.map[i].isMoving = false
  | some m => s.map[m.entry] = .moving m.home m.old m.new ∧
      ∀ i : EntryNumber, i ≠ m.entry → s.map[i].isMoving = false

/-- The map, the pool and the engine agree (R85, R87, R88). -/
abbrev MapLaw (s : State) : Prop := HomesLaw s ∧ PoolLaw s ∧ EngineLaw s

/-! ## Service states and the scrub -/

/-- R147, R154, R155: which scrub states go with which scrub read and service state. -/
def scrubAgrees (service : ServiceState) (c : Scrub) : Bool :=
  match c.state, c.read with
  | .off, none => true
  | .off, some r => service == .aborting && r.granted.isSome
  | .waiting, none => service == .running
  | .waiting, some _ => false
  | .pending, some r => r.granted.isNone && (service == .running || service == .stopping)
  | .pending, none => false
  | .reading, some r => r.granted.isSome && (service == .running || service == .stopping)
  | .reading, none => false

abbrev ScrubLaw (s : State) : Prop := scrubAgrees s.service s.scrub = true

/-- R159: what holds throughout HALTED. -/
abbrev HaltedLaw (s : State) : Prop :=
  s.service = .halted →
    s.tt = [] ∧ s.repairs.queue = [] ∧ s.repairs.issued = [] ∧ s.engine = .idle ∧
    s.scrub.read = none ∧ s.scrub.state = .off ∧ ∀ n : SlotNumber, s.memory.slots[n].isBusy = false

/-- R164: after the taking of RESTART nothing asks for the memory port. -/
abbrev AbortingLaw (s : State) : Prop :=
  s.service = .aborting →
    s.repairs.queue = [] ∧ (∀ e ∈ s.tt, e.isIssued = true) ∧
    (s.engine = .idle ∨ s.engine.issued?.isSome = true)

/-- R158, R159, R164 with the laws they rest on. -/
abbrev ServiceLaw (s : State) : Prop :=
  TagLaw s ∧ SlotLaw s ∧ ScrubLaw s ∧ HaltedLaw s ∧ AbortingLaw s

/-- R158, R188: the command slot is EXECUTING with the STOP for the whole of STOPPING, with the RESTART for the whole of
ABORTING, and at no other time. -/
abbrev DrainLaw (s : State) : Prop :=
  (s.service = .stopping ↔ ∃ b, s.link.slot = .executing .stop b) ∧
  (s.service = .aborting ↔ ∃ b, s.link.slot = .executing .restart b)

/-- A request a port holds is that port's (R23). -/
abbrev HeldLaw (s : State) : Prop :=
  (∀ r ∈ s.ports.heldU0, r.port = .u0) ∧ (∀ r ∈ s.ports.heldU1, r.port = .u1)

/-- R169: while RESET_N is asserted every block is held at its default; the presented requests stay presented. -/
abbrev ResetLaw (s : State) : Prop :=
  s.resetPin.asserted = true →
    s = { State.reset with
      resetPin := ⟨true, false⟩, ports := s.ports, out := s.out, draws := s.draws, pending := s.pending }

/-! ## Words of the statements -/

/-- The slot is EXECUTING: a frame other than RESTART is ignored (R189 test 1). -/
def CommandSlot.isExecuting : CommandSlot → Bool
  | .executing _ _ => true
  | .empty => false
  | .ready _ => false

/-- RESET_N is not asserted (R169). -/
abbrev OutOfReset (s : State) : Prop := s.resetPin.asserted = false

/-- R185: a frame that ends now is taken: RESET_N is not asserted, and the frame began after the last reset. -/
abbrev TakesFrames (s : State) : Prop := OutOfReset s ∧ s.resetPin.openFrame = false

/-- A frame that ends now is taken, and R189 test 1 does not ignore it. -/
abbrev TakesCommands (s : State) : Prop := TakesFrames s ∧ s.link.slot.isExecuting = false

/-- The slot holds a result; a frame taken now discards it (R189). -/
def CommandSlot.isReady : CommandSlot → Bool
  | .ready _ => true
  | .empty => false
  | .executing _ _ => false

/-- A COMMAND frame of `n` bytes has passed: MISO carried 0x00 throughout (R186). -/
def State.framed (s : State) (n : Nat) : State := { s with out := ⟨[], [], [], List.replicate n 0x00⟩ }

/-- The slot holds this result; it carries previous-result-unread when the frame was taken in RESULT_READY (R189).
The overrun mark is as it was (R190). -/
def State.result (s : State) (code : Byte) (status : Status) (bytes : List Byte) : State :=
  { s with link := ⟨.ready ⟨code, status, bytes, s.link.slot.isReady⟩, s.link.overrun⟩ }

/-- No internal event is due (log 4): no slot expires, no countdown expires, no drain completes, no take is made. -/
abbrev NothingDue (s : State) : Prop :=
  (∀ n : SlotNumber, s.expiryDue n = false) ∧ s.countdownDue = false ∧ s.stopDrainDue = false ∧
  s.restartDrainDue = false ∧ s.takeDue = false

/-- No request is held at a port. -/
abbrev NoneHeld (s : State) : Prop := s.ports = ⟨none, none⟩

/-- Tested again outside RUNNING, the requests the ports hold stay held (R23): STALL, and no entry has their tag. -/
abbrev HeldStays (s : State) : Prop :=
  HeldLaw s ∧ ∀ (p : Port) (r : Request), s.heldAt p = some r →
    s.cfg.haltedPolicy = .stall ∧ ∀ e ∈ s.tt, ¬ (e.port = p ∧ e.tag = r.tag)

/-- The presented request passes test 1 and test 2 (R22, R23) out of reset: its port holds none, its tag is not held,
RUNNING. -/
abbrev PassesToForm (s : State) (r : Request) : Prop :=
  OutOfReset s ∧ s.heldAt r.port = none ∧ (∀ e ∈ s.tt, ¬ (e.port = r.port ∧ e.tag = r.tag)) ∧
  s.service = .running

/-- R24: it is not malformed either. -/
abbrev PassesToRange (s : State) (r : Request) : Prop :=
  PassesToForm s r ∧ 1 ≤ r.length ∧ r.length ≤ 64 ∧ r.address.toNat % 64 + r.length ≤ 64

/-- R34, as conditions on an entry (or one about to be created). -/
abbrev HeldByHazard (s : State) (e : Entry) : Prop :=
  (e.op.isWrite = false ∧ ∃ o ∈ s.tt, o.home = e.home ∧ o.op.isWrite = true ∧ o.position < e.position) ∨
  (e.op.isWrite = true ∧
    ((∃ o ∈ s.tt, o.home = e.home ∧ o.position < e.position) ∨
      ∃ r ∈ s.scrub.read, r.home = e.home ∧ r.position < e.position)) ∨
  (∃ r ∈ s.repairs.queue, r.home = e.home ∧ r.position < e.position) ∨
  (∃ r ∈ s.repairs.issued, r.record.home = e.home) ∨
  s.isMoving e.home = true

/-- A stored chunk with one of its 72 bits inverted: 0 to 63 a data bit, 64 to 71 a check bit. -/
def flipBit (c : StoredChunk) (i : Fin 72) : StoredChunk :=
  if i.val < 64 then { c with data := c.data ^^^ BitVec.twoPow 64 i.val }
  else { c with check := c.check ^^^ BitVec.twoPow 8 (i.val - 64) }

/-- The events offered one after the other (R175). -/
def EventQueue.offers (q : EventQueue) (mask : BitVec 16) (l : List Event) : EventQueue :=
  l.foldl (fun q e => q.offer mask e) q

/-- R47: the events of a read, over the chunks each is judged on. -/
def readEvents (origin : Origin) (tag : Option Tag) (location : Location) (r : LineResult)
    (poisoned : List ChunkNumber) : List Event :=
  let event (kind : EventKind) (chunks : List ChunkNumber) : List Event :=
    match chunks with
    | [] => []
    | c :: cs =>
      [{ kind := kind, origin := origin, location := some location, chunk := some c,
         chunkCount := some (cs.length + 1), tag := tag }]
  event .corrected (correctedChunks r) ++ event .uncorrectable (uncorrectableChunks r) ++ event .poisonRead poisoned

/-- A counter that has advanced when the condition holds (R180). -/
def advanced (c : BitVec 32) (when : Bool) : BitVec 32 :=
  if when ∧ c ≠ BitVec.allOnes 32 then c + 1 else c

/-- An entry without its phase. -/
def Entry.unphased (e : Entry) : Entry := { e with phase := .waiting }

/-- The same entries in the same order; their phases may differ, as the hazard rule gives (PhaseLaw). -/
abbrev SameButPhases (a b : List Entry) : Prop := a.map Entry.unphased = b.map Entry.unphased

/-- R111: an engine in QUIESCE is in COPY_READ, not issued, once no operation of its line is BUSY; in every other state
it is as it was. -/
abbrev QuiesceEnds (before : Engine) (u : State) : Prop :=
  (∀ m, before = .quiesce m → u.engine = if u.lineBusy m.home then .quiesce m else .copyRead m none) ∧
  ((∀ m, before ≠ .quiesce m) → u.engine = before)

/-- The spare is the lowest-numbered AVAILABLE one (R89). -/
abbrev IsLowestAvailable (s : State) (n : Nat) : Prop :=
  s.spares[n]? = some .available ∧ ∀ m < n, s.spares[m]? ≠ some .available

/-- The entry is the lowest-numbered FREE one (R92). -/
abbrev IsLowestFree (s : State) (i : EntryNumber) : Prop :=
  s.map[i] = .free ∧ ∀ j : EntryNumber, j < i → s.map[j] ≠ .free

/-- The slots after the one of a completion has become FREE (R136). -/
def State.slotFreed (s : State) (n : SlotNumber) : MemoryPort :=
  { s.memory with slots := s.memory.slots.set n.1 .free n.2 }

/-- The entries without the one of a port and a tag. -/
def State.others (s : State) (p : Port) (t : Tag) : List Entry :=
  s.tt.filter fun e => !(e.port == p && e.tag == t)

end Sys2Proof.Machine
end

