-- ==== Sys2Proof/WellFormed.lean ====
section
/-! DEFINITION. Which commands are well formed: the checks that the operand types do not make. `exec` gives every
command a meaning, well formed or not. -/

namespace Sys2Proof

/-- A byte-enable set names each position once; the positions are listed in rising order. -/
def risingPositions : List (Nat × Byte) → Bool
  | [] => true
  | [_] => true
  | a :: b :: l => decide (a.1 < b.1) && risingPositions (b :: l)

/-- R18: a WRITE's byte-enable set is a set. -/
def Request.wellFormed (r : Request) : Bool :=
  match r.op with
  | .read => true
  | .write bytes => risingPositions bytes

/-- A COMMAND frame: at least one complete byte, and not a RESULT frame (R185, R186). -/
def isCommandFrame (frame : List Byte) : Bool :=
  match Machine.frameKind frame with
  | .silent => false
  | .result _ => false
  | _ => true

def isIllFormedFrame (frame : List Byte) : Bool :=
  match Machine.frameKind frame with
  | .illFormed _ => true
  | _ => false

def isUnknownFrame (frame : List Byte) : Bool :=
  match Machine.frameKind frame with
  | .unknownCode _ => true
  | _ => false

def isWrongLengthFrame (frame : List Byte) : Bool :=
  match Machine.frameKind frame with
  | .wrongLength _ => true
  | _ => false

/-- The row's own event is meant: the frame rows carry a frame of their kind (R186, R189). -/
def Instr.wellFormed (i : Instr) : Bool :=
  match i with
  | .presentedRequest r => r.wellFormed
  | .badCheck frame => isIllFormedFrame frame
  | .unknown frame => isUnknownFrame frame
  | .overrun frame => isCommandFrame frame && Machine.frameKind frame != .command .restart
  | .resultFrame length => decide (1 ≤ length)
  | .badArgumentLength frame => isWrongLengthFrame frame
  | .coldReset _ | .grant _ | .completion _ _ | .tick | .slotExpiry _ | .countdownExpiry | .take
  | .stopDrainComplete | .restartDrainComplete | .readIdentity | .readState
  | .configureInstalledLines _ | .configureSpareLines _ | .configureSpareThreshold _ | .configureTickShift _
  | .configureScrubInterval _ | .configureDownstreamTimeout _ | .configureHaltedPolicy _
  | .configureRepairEnable _ | .configureEventMask _ | .configureAlertEnable _ | .readConfig _
  | .start | .stop | .restart | .loadMap _ _ | .loadRetired _ | .requestSpare _ | .readMapEntry _ | .findMap _
  | .readSpare _ | .readSuspect _ | .readSparingQueue _ | .takeEvent | .readCounters | .clearCounters => true

end Sys2Proof
end

