-- ==== Sys2Proof/Certificates/Slice0/Obligations.lean ====
section
/-! DEFINITION. The statements for the provers, in the order of the spec's chapters. Where a statement says that a
command is quiet about a thing, the equation of the next state says it: the fields it does not name are those of the
state before. Three things in them are the model's and not the spec's: positions in acceptance order are numbers
(`nextPosition`, log 6); `out` holds what the last command put out (`quiet`, `framed`, log 7); `draws` counts the free
choices (log 3), and `completedLine` is the line of a DONE, or a free line where a DONE carries none (log 8). Most
statements speak of a bridge whose RESET_N is not asserted (`OutOfReset`), and those about a frame of one that is taken
(`TakesFrames`, `TakesCommands`): ColdResetReturnsEveryBlockToItsDefault and FramesThatExecuteNothing say what happens
otherwise. -/

section
open Sys2Proof Sys2Proof.Machine

/-! ## The queue of commands and cold reset -/

/-- A step takes the command at the front of the queue and runs it with the queue's rest. -/
def Obligations.StepTakesTheFrontCommand : Prop :=
  ∀ (c : Instr) (s : State) (rest : List Instr),
    step { s with pending := c :: rest } = exec c { s with pending := rest }

/-- Every command has a next state, and none touches the queue. Both are the model's: the queue of waiting commands is
how commands come to the block (log 2), it is kept by COLD_RESET too (log 10), and a command whose condition does not
hold has no effect instead of a fault (log 4). -/
def Obligations.EveryCommandAnswersNextAndKeepsTheQueue : Prop :=
  ∀ (c : Instr) (s : State), ∃ t, exec c s = .next t ∧ t.pending = s.pending

/-- R169, R21, R39, R140, R145: every block returns to its default and stays there while RESET_N is asserted: the ports
take nothing, no tick comes, a completion is discarded with no event. The requests presented at the ports stay
presented. That assertion and release are operands of one command, that a release without an assertion has no effect,
and that the waiting commands and the count of draws are kept are the model's (log 10, log 3). -/
def Obligations.ColdResetReturnsEveryBlockToItsDefault : Prop :=
  (∀ (s : State) (frameOpen : Bool), HeldLaw s →
    ∃ d, exec (.coldReset (.whole frameOpen)) s = .next { State.reset with
      resetPin := ⟨false, frameOpen⟩, ports := s.ports, draws := d, pending := s.pending }) ∧
  (∀ s : State, exec (.coldReset .assertion) s = .next { State.reset with
    resetPin := ⟨true, false⟩, ports := s.ports, draws := s.draws, pending := s.pending }) ∧
  (∀ (s : State) (frameOpen : Bool), s.resetPin.asserted = true → HeldLaw s →
    ∃ d, exec (.coldReset (.release frameOpen)) s = .next { State.reset with
      resetPin := ⟨false, frameOpen⟩, ports := s.ports, draws := d, pending := s.pending }) ∧
  (∀ (s : State) (frameOpen : Bool), OutOfReset s → exec (.coldReset (.release frameOpen)) s = .next s.quiet) ∧
  (∀ s : State, s.resetPin.asserted = true →
    (∀ (n : SlotNumber) (status : CompletionStatus) (ready : Bool),
      ∀ i ∈ ([.grant ready, .completion n status, .tick, .slotExpiry n, .countdownExpiry, .take,
          .stopDrainComplete, .restartDrainComplete] : List Instr), exec i s = .next s.quiet) ∧
    (∀ r, s.heldAt r.port = none → exec (.presentedRequest r) s = .next (s.quiet.setHeld r.port (some r))) ∧
    (s.pending = [] → step s = .next s.quiet)) ∧
  ResetLaw .reset ∧ (∀ s s' : State, ResetLaw s → step s = .next s' → ResetLaw s') ∧
  State.reset.cfg = ⟨24, 64, 3, 4, 0, 64, .stall, true, 0xFFFF, true⟩ ∧
  State.reset.service = .halted ∧ State.reset.lastReset = .cold ∧ State.reset.tt = [] ∧
  State.reset.repairs = ⟨[], []⟩ ∧ State.reset.sparing = [] ∧ State.reset.suspects = [] ∧
  State.reset.events = ⟨[], 0, false⟩ ∧ State.reset.counters = ⟨0, 0, 0, 0, 0, 0, 0, 0, 0⟩ ∧
  (∀ i : EntryNumber, State.reset.map[i] = .free) ∧ State.reset.spares = List.replicate 64 .available ∧
  State.reset.engine = .idle ∧ (∀ n : SlotNumber, State.reset.memory.slots[n] = .free) ∧
  State.reset.memory.passOver = 0 ∧ State.reset.memory.mark = .u1 ∧ State.reset.scrub = ⟨.off, 0, 0, none⟩ ∧
  State.reset.microseconds = 0 ∧ State.reset.link = ⟨.empty, false⟩

/-- The state after reset meets every law that the invariants below speak of. -/
def Obligations.ResetMeetsEveryLaw : Prop :=
  ConfigLaw .reset ∧ CapacityLaw .reset ∧ OrderLaw .reset ∧ PhaseLaw .reset ∧ ExclusionLaw .reset ∧
  RepairLaw .reset ∧ SuspectLaw .reset ∧ SparingLaw .reset ∧ SequenceLaw .reset ∧ MapLaw .reset ∧
  ServiceLaw .reset ∧ HeldLaw .reset ∧ DrainLaw .reset

/-! ## Chapter 1: chunks and the check code -/

/-- R7, the four guarantees; the first three for a chunk written with data, and a POISONED case that two bit errors
never form under the exclusive or (both the model's reading, log 1). R9: each chunk of a line is classified on its own. -/
def Obligations.CheckCodeGuarantees : Prop :=
  (∀ d : ChunkData, classify (ChunkContent.data d).stored = .clean d) ∧
  (∀ (d : ChunkData) (i : Fin 72), classify (flipBit (ChunkContent.data d).stored i) = .corrected d) ∧
  (∀ (d : ChunkData) (i j : Fin 72), i ≠ j →
    classify (flipBit (flipBit (ChunkContent.data d).stored i) j) =
      if syndrome (flipBit (flipBit (ChunkContent.data d).stored i) j) = Config.code.poison then .poisoned
      else .uncorrectable) ∧
  classify ChunkContent.poison.stored = .poisoned ∧
  Config.code.poison ≠ 0 ∧
  (∀ (d : ChunkData) (i : Fin 72), syndrome (flipBit (ChunkContent.data d).stored i) ≠ Config.code.poison) ∧
  ∀ (stored : StoredLine) (c : ChunkNumber) (n : Nat),
    (classifyLine stored)[c] = classify stored[c] ∧ completedLine n (some stored) = stored

/-- R14 with R10: how poison is stored, and what it reads as, unchanged and after one bit error. That "combined" is
the exclusive or is the model's reading (log 1). -/
def Obligations.PoisonIsStoredAndDecaysToUncorrectable : Prop :=
  ChunkContent.poison.stored = ⟨0, freshCheck 0 ^^^ Config.code.poison⟩ ∧
  syndrome ChunkContent.poison.stored = Config.code.poison ∧
  ∀ i : Fin 72, classify (flipBit ChunkContent.poison.stored i) = .uncorrectable

/-- R3: requested and touched chunks, full coverage and the write class, from the byte offsets. -/
def Obligations.ChunkTermsFollowTheBytes : Prop :=
  (∀ (offset length : Nat) (c : ChunkNumber), 1 ≤ length →
    (c ∈ requestedChunks offset length ↔ ∃ b, offset ≤ b ∧ b < offset + length ∧ b / 8 = c.val)) ∧
  (∀ (offset : Nat) (bytes : List (Nat × Byte)) (c : ChunkNumber),
    (c ∈ touchedChunks offset bytes ↔ ∃ x ∈ bytes, (offset + x.1) / 8 = c.val) ∧
    (fullyCovered offset bytes c = true ↔ ∀ p < 8, ∃ x ∈ bytes, offset + x.1 = 8 * c.val + p)) ∧
  ∀ (offset : Nat) (bytes : List (Nat × Byte)),
    writeClass offset bytes = .full ↔
      ∀ c : ChunkNumber, c ∈ touchedChunks offset bytes → fullyCovered offset bytes c = true

/-! ## Chapter 2: the ports and the Transaction Table -/

/-- R22, R23: test 1 drops a request whose tag the port holds; test 2 holds it or answers OFFLINE outside RUNNING. The
last clause is the model's choice (log 11): behind a held request nothing is seen. -/
def Obligations.TagClashAndPolicyTestsComeFirst : Prop :=
  (∀ (s : State) (r : Request), OutOfReset s → s.heldAt r.port = none →
    (∃ e ∈ s.tt, e.port = r.port ∧ e.tag = r.tag) →
    exec (.presentedRequest r) s =
      .next (s.quiet.offer { kind := .tagClash, origin := portOrigin r.port, tag := some r.tag })) ∧
  (∀ (s : State) (r : Request), OutOfReset s → s.heldAt r.port = none →
    (∀ e ∈ s.tt, ¬ (e.port = r.port ∧ e.tag = r.tag)) → s.service ≠ .running →
    exec (.presentedRequest r) s =
      if s.cfg.haltedPolicy = .stall then .next (s.quiet.setHeld r.port (some r))
      else .next (s.quiet.respond r.port ⟨r.tag, .offline, []⟩)) ∧
  ∀ (s : State) (r : Request), s.heldAt r.port ≠ none → exec (.presentedRequest r) s = .next s.quiet

/-- R24: a malformed request is answered ERR_FORM at once, a FORM event is offered, and nothing else changes. -/
def Obligations.MalformedRequestIsAnsweredErrForm : Prop :=
  ∀ (s : State) (r : Request), PassesToForm s r →
    (r.length = 0 ∨ 64 < r.length ∨ 64 < r.address.toNat % 64 + r.length) →
    exec (.presentedRequest r) s =
      .next ((s.quiet.respond r.port ⟨r.tag, .errForm, []⟩).offer
        { kind := .form, origin := portOrigin r.port, tag := some r.tag })

/-- R25: a well-formed request beyond VISIBLE_LINES is answered ERR_RANGE at once and a RANGE event is offered. -/
def Obligations.OutOfRangeRequestIsAnsweredErrRange : Prop :=
  ∀ (s : State) (r : Request), PassesToRange s r → s.visibleLines ≤ r.address.toNat / 64 →
    exec (.presentedRequest r) s =
      .next ((s.quiet.respond r.port ⟨r.tag, .errRange, []⟩).offer
        { kind := .range, origin := portOrigin r.port, tag := some r.tag })

/-- R26: an empty WRITE is answered OK at once; no entry, no position, no event, no counter. -/
def Obligations.EmptyWriteIsAnsweredOk : Prop :=
  ∀ (s : State) (r : Request) (bytes : List (Nat × Byte)), PassesToRange s r →
    r.address.toNat / 64 < s.visibleLines → r.op = .write bytes → (∀ b ∈ bytes, r.length ≤ b.1) →
    exec (.presentedRequest r) s = .next (s.quiet.respond r.port ⟨r.tag, .ok, []⟩)

/-- R27, R29: a request that passes tests 1 to 5 becomes an entry at the next position; its phase is WAITING when a
condition of the hazard rule holds for it, else READY. -/
def Obligations.AcceptedRequestBecomesAnEntry : Prop :=
  ∀ (s : State) (r : Request), PassesToRange s r → r.address.toNat / 64 < s.visibleLines →
    (∀ bytes, r.op = .write bytes → ∃ b ∈ bytes, b.1 < r.length) →
    ∃ e : Entry,
      exec (.presentedRequest r) s =
        .next { s.quiet with tt := s.tt ++ [e], nextPosition := s.nextPosition + 1 } ∧
      e.port = r.port ∧ e.tag = r.tag ∧ e.home = r.address.toNat / 64 ∧ e.offset = r.address.toNat % 64 ∧
      e.length = r.length ∧ e.position = s.nextPosition ∧ e.slot = none ∧ e.location = none ∧
      e.readResult = none ∧
      (r.op = .read → e.op = .read) ∧
      (∀ bytes, r.op = .write bytes →
        e.op = .write (writeClass e.offset (bytes.filter fun b => decide (b.1 < r.length)))
          (bytes.filter fun b => decide (b.1 < r.length))) ∧
      (HeldByHazard s e → e.phase = .waiting) ∧ (¬ HeldByHazard s e → e.phase = .ready)

/-- R30, R34, R58: the phase that an entry not issued has when it looks again. -/
def Obligations.UnissuedPhaseFollowsTheHazardRule : Prop :=
  ∀ (s : State) (e : Entry),
    (e.isIssued = true ↔ e.phase = .issued ∨ e.phase = .issuedWrite) ∧
    ((e.phase = .issued ∨ e.phase = .issuedWrite) → s.phaseNow e = e.phase) ∧
    (e.phase ≠ .issued → e.phase ≠ .issuedWrite →
      (HeldByHazard s e → s.phaseNow e = .waiting) ∧
      (¬ HeldByHazard s e → s.phaseNow e = if e.readResult = none then .ready else .writeReady))

/-! ## Chapter 3: reads and writes -/

/-- R42, R44, R45, R51, R53, R58: what an entry asks the arbiter for, at the location its line has now. -/
def Obligations.EntriesAskByKindAndPhase : Prop :=
  ∀ (s : State) (e : Entry) (l : Location), s.resolve e.home = some l →
    (e.phase = .ready → e.op = .read →
      s.entryCandidate e = some ⟨.port, .entry e.port e.tag, .lineRead, l, []⟩) ∧
    (∀ bytes, e.phase = .ready → e.op = .write .partialWrite bytes →
      s.entryCandidate e = some ⟨.port, .entry e.port e.tag, .lineRead, l, []⟩) ∧
    (∀ bytes, e.phase = .ready → e.op = .write .full bytes →
      s.entryCandidate e = some ⟨.port, .entry e.port e.tag, .chunkWrite, l,
        (touchedChunks e.offset bytes).map fun c => (c, .data (mergeChunk e.offset bytes c 0))⟩) ∧
    (∀ cls bytes r, e.phase = .writeReady → e.op = .write cls bytes → e.readResult = some r →
      s.entryCandidate e = some ⟨.writeBack, .entry e.port e.tag, .chunkWrite, l,
        partialContent e.offset bytes r⟩) ∧
    (e.phase ≠ .ready → e.phase ≠ .writeReady → s.entryCandidate e = none)

/-- R3, R51, R57, R11: the new byte of each byte offset is the one the request gives for its position (a request names a
position once), and it is the byte stored there, in a FULL write (`mergeChunk` over 0, EntriesAskByKindAndPhase) and in a
merge. R56, R57, R15: what the write phase of a PARTIAL write stores in each chunk; `v` is the byte at each position. -/
def Obligations.WritePhaseContentFollowsTheClasses : Prop :=
  (∀ (offset : Nat) (bytes : List (Nat × Byte)), (bytes.map (·.1)).Nodup →
    (∀ (b : Nat) (v : Byte), newByte offset bytes b = some v ↔ ∃ x ∈ bytes, offset + x.1 = b ∧ x.2 = v) ∧
    (∀ (c : ChunkNumber) (old : ChunkData), ∀ p < 8,
      (∀ x ∈ bytes, offset + x.1 = 8 * c.val + p → byteAt (mergeChunk offset bytes c old) p = x.2) ∧
      ((∀ x ∈ bytes, offset + x.1 ≠ 8 * c.val + p) →
        byteAt (mergeChunk offset bytes c old) p = byteAt old p))) ∧
  (∀ d : ChunkData, (ChunkResult.clean d).supplied = some d ∧ (ChunkResult.corrected d).supplied = some d) ∧
  ChunkResult.poisoned.supplied = none ∧ ChunkResult.uncorrectable.supplied = none ∧
  (∀ (offset : Nat) (bytes : List (Nat × Byte)) (r : LineResult) (c : ChunkNumber),
    (c ∈ touchedChunks offset bytes →
      ∃ d, partialChunk offset bytes r c = some (.data d) ∧
        ∀ p < 8,
          (∀ v, newByte offset bytes (8 * c.val + p) = some v → byteAt d p = v) ∧
          (newByte offset bytes (8 * c.val + p) = none → ∀ old, r[c].supplied = some old →
            byteAt d p = byteAt old p)) ∧
    (c ∉ touchedChunks offset bytes →
      (∀ d, r[c] = .clean d → partialChunk offset bytes r c = none) ∧
      (r[c] = .poisoned → partialChunk offset bytes r c = none) ∧
      (∀ d, r[c] = .corrected d → partialChunk offset bytes r c = some (.data d)) ∧
      (r[c] = .uncorrectable → partialChunk offset bytes r c = some .poison))) ∧
  ∀ (offset : Nat) (bytes : List (Nat × Byte)) (r : LineResult) (c : ChunkNumber) (x : ChunkContent),
    (c, x) ∈ partialContent offset bytes r ↔ partialChunk offset bytes r c = some x

/-- R45 to R48: the DONE of a READ's line read. The response follows the requested chunks; the events of R47 come
before those of the Repair Queue and the Sparing Queue; the counters advance whatever the mask. The line result is
handed on (`handOn`, which RepairOfferIsSettledInOrder spells out) with a repair offer. -/
def Obligations.ReadIsAnsweredByItsRequestedChunks : Prop :=
  ∀ (s : State) (n : SlotNumber) (line : Nat) (l : Location) (p : Port) (t : Tag) (count : Nat) (e : Entry)
    (stored : Option StoredLine),
    OutOfReset s → s.memory.slots[n] = .busy .lineRead line l (.entry p t) count → s.entryOf p t = some e →
    e.op = .read → e.phase = .issued → e.location = some l → s.service ≠ .aborting →
    let r := classifyLine (completedLine s.draws stored)
    let requested := requestedChunks e.offset e.length
    ∃ (u : State) (status : ResponseStatus) (data : List Byte) (later : List Event),
      exec (.completion n (.done stored)) s = .next u ∧
      u.out = (s.quiet.respond p ⟨t, status, data⟩).out ∧
      ((∃ c ∈ requested, r[c] = .poisoned) → status = .errPoison ∧ data = []) ∧
      ((∀ c ∈ requested, r[c] ≠ .poisoned) → (∃ c ∈ requested, r[c] = .uncorrectable) →
        status = .errUncorr ∧ data = []) ∧
      ((∀ c ∈ requested, r[c] ≠ .poisoned ∧ r[c] ≠ .uncorrectable) →
        status = .ok ∧ data.length = e.length ∧
        ∀ i < e.length, ∀ (c : ChunkNumber) (d : ChunkData), c.val = (e.offset + i) / 8 →
          r[c].supplied = some d → data[i]? = some (byteAt d ((e.offset + i) % 8))) ∧
      SameButPhases u.tt (s.others p t) ∧ u.memory = s.slotFreed n ∧
      u.counters = { s.counters with
        correctedReads := advanced s.counters.correctedReads (correctedChunks r ≠ [])
        uncorrectableReads := advanced s.counters.uncorrectableReads (uncorrectableChunks r ≠ [])
        poisonReads := advanced s.counters.poisonReads (∃ c ∈ requested, r[c] = .poisoned)
        repairsDropped := u.counters.repairsDropped } ∧
      u.events = (s.events.offers s.cfg.eventMask
        (readEvents (portOrigin p) (some t) l r (requested.filter fun c => r[c].isPoisoned))).offers
          s.cfg.eventMask later ∧
      (∀ x ∈ later, x.kind = .repairDropped ∨ x.kind = .spareQueueFull) ∧
      QuiesceEnds s.engine u ∧
      (let reported : State := { s with
          memory := u.memory, tt := s.others p t, out := u.out
          counters := { s.counters with
            correctedReads := u.counters.correctedReads, uncorrectableReads := u.counters.uncorrectableReads
            poisonReads := u.counters.poisonReads }
          events := s.events.offers s.cfg.eventMask
            (readEvents (portOrigin p) (some t) l r (requested.filter fun c => r[c].isPoisoned)) }
       u = { reported.handOn ⟨portOrigin p, some t, e.home, l, e.position⟩ r true with
         tt := u.tt, engine := u.engine, draws := u.draws }) ∧
      u = { s with memory := u.memory, tt := u.tt, out := u.out, counters := u.counters, events := u.events,
                   repairs := u.repairs, nextPosition := u.nextPosition, suspects := u.suspects,
                   sparing := u.sparing, engine := u.engine, draws := u.draws }

/-- R50, R52, R53, R60: outside ABORTING a write whose chunk write is DONE is answered OK, and an entry whose
operation FAILED is answered ERR_MEMORY after DOWNSTREAM_FAILED; no line result is handed on. -/
def Obligations.WritesAndFailuresAreAnswered : Prop :=
  ∀ (s : State) (n : SlotNumber) (kind : OpKind) (line : Nat) (l : Location) (p : Port) (t : Tag) (count : Nat)
    (e : Entry),
    OutOfReset s → s.memory.slots[n] = .busy kind line l (.entry p t) count → s.entryOf p t = some e →
    s.service ≠ .aborting →
    (∀ stored, kind = .chunkWrite → e.phase = .issuedWrite →
      ∃ u, exec (.completion n (.done stored)) s = .next u ∧
        u.out = (s.quiet.respond p ⟨t, .ok, []⟩).out ∧ SameButPhases u.tt (s.others p t) ∧
        QuiesceEnds s.engine u ∧
        u = { s with memory := s.slotFreed n, tt := u.tt, out := u.out, engine := u.engine }) ∧
    ∃ u, exec (.completion n .failed) s = .next u ∧
      u.out = (s.quiet.respond p ⟨t, .errMemory, []⟩).out ∧ SameButPhases u.tt (s.others p t) ∧
      QuiesceEnds s.engine u ∧
      u = { s with
        memory := s.slotFreed n, tt := u.tt, out := u.out, engine := u.engine
        events := s.events.offer s.cfg.eventMask
          { kind := .downstreamFailed, origin := .memoryPort, location := some l, detail := some (.slot n) } }

/-- R54, R55: a PARTIAL write whose read phase finds a partly covered chunk POISONED or UNCORRECTABLE is refused, and
its line result is handed on with a repair offer. -/
def Obligations.DamagedPartlyCoveredChunkRefusesTheWrite : Prop :=
  ∀ (s : State) (n : SlotNumber) (line : Nat) (l : Location) (p : Port) (t : Tag) (count : Nat) (e : Entry)
    (cls : WriteClass) (bytes : List (Nat × Byte)) (stored : Option StoredLine),
    OutOfReset s → s.memory.slots[n] = .busy .lineRead line l (.entry p t) count → s.entryOf p t = some e →
    e.op = .write cls bytes → e.phase = .issued → e.location = some l → s.service ≠ .aborting →
    let r := classifyLine (completedLine s.draws stored)
    let partly := partlyCoveredChunks e.offset bytes
    (∃ c ∈ partly, r[c] = .poisoned ∨ r[c] = .uncorrectable) →
    ∃ (u : State) (later : List Event),
      exec (.completion n (.done stored)) s = .next u ∧
      u.out = (s.quiet.respond p
        ⟨t, if partly.any fun c => r[c].isPoisoned then .errPoison else .errUncorr, []⟩).out ∧
      SameButPhases u.tt (s.others p t) ∧ u.memory = s.slotFreed n ∧
      u.counters = { s.counters with
        correctedReads := advanced s.counters.correctedReads (correctedChunks r ≠ [])
        uncorrectableReads := advanced s.counters.uncorrectableReads (uncorrectableChunks r ≠ [])
        poisonReads := advanced s.counters.poisonReads (∃ c ∈ partly, r[c] = .poisoned)
        repairsDropped := u.counters.repairsDropped } ∧
      u.events = (s.events.offers s.cfg.eventMask
        (readEvents (portOrigin p) (some t) l r (partly.filter fun c => r[c].isPoisoned))).offers
          s.cfg.eventMask later ∧
      (∀ x ∈ later, x.kind = .repairDropped ∨ x.kind = .spareQueueFull) ∧
      QuiesceEnds s.engine u ∧
      (let reported : State := { s with
          memory := u.memory, tt := s.others p t, out := u.out
          counters := { s.counters with
            correctedReads := u.counters.correctedReads, uncorrectableReads := u.counters.uncorrectableReads
            poisonReads := u.counters.poisonReads }
          events := s.events.offers s.cfg.eventMask
            (readEvents (portOrigin p) (some t) l r (partly.filter fun c => r[c].isPoisoned)) }
       u = { reported.handOn ⟨portOrigin p, some t, e.home, l, e.position⟩ r true with
         tt := u.tt, engine := u.engine, draws := u.draws }) ∧
      u = { s with memory := u.memory, tt := u.tt, out := u.out, counters := u.counters, events := u.events,
                   repairs := u.repairs, nextPosition := u.nextPosition, suspects := u.suspects,
                   sparing := u.sparing, engine := u.engine, draws := u.draws }

/-- R53, R54, R58, R59: otherwise it proceeds: no answer; the line result is handed on without a repair offer; the entry
keeps its read result and is WRITE_READY, or WAITING while a hazard holds it. -/
def Obligations.ProceedingPartialWriteKeepsItsReadResult : Prop :=
  ∀ (s : State) (n : SlotNumber) (line : Nat) (l : Location) (p : Port) (t : Tag) (count : Nat) (e : Entry)
    (cls : WriteClass) (bytes : List (Nat × Byte)) (stored : Option StoredLine),
    OutOfReset s → s.memory.slots[n] = .busy .lineRead line l (.entry p t) count → s.entryOf p t = some e →
    e.op = .write cls bytes → e.phase = .issued → e.location = some l → s.service ≠ .aborting →
    let r := classifyLine (completedLine s.draws stored)
    (∀ c ∈ partlyCoveredChunks e.offset bytes, r[c] ≠ .poisoned ∧ r[c] ≠ .uncorrectable) →
    ∃ (u : State) (later : List Event) (e' : Entry),
      exec (.completion n (.done stored)) s = .next u ∧ u.memory = s.slotFreed n ∧
      e' ∈ u.tt ∧ e' = { e with phase := e'.phase, slot := none, readResult := some r } ∧
      SameButPhases (u.others p t) (s.others p t) ∧
      (HeldByHazard u e' → e'.phase = .waiting) ∧ (¬ HeldByHazard u e' → e'.phase = .writeReady) ∧
      u.counters = { s.counters with
        correctedReads := advanced s.counters.correctedReads (correctedChunks r ≠ [])
        uncorrectableReads := advanced s.counters.uncorrectableReads (uncorrectableChunks r ≠ []) } ∧
      u.events = (s.events.offers s.cfg.eventMask (readEvents (portOrigin p) (some t) l r [])).offers
        s.cfg.eventMask later ∧
      (∀ x ∈ later, x.kind = .spareQueueFull) ∧
      QuiesceEnds s.engine u ∧
      (let reported : State := { s with
          memory := u.memory, out := .none, counters := u.counters
          events := s.events.offers s.cfg.eventMask (readEvents (portOrigin p) (some t) l r []) }
       u = { reported.handOn ⟨portOrigin p, some t, e.home, l, e.position⟩ r false with
         tt := u.tt, engine := u.engine, draws := u.draws }) ∧
      u = { s with memory := u.memory, tt := u.tt, out := .none, counters := u.counters, events := u.events,
                   suspects := u.suspects, sparing := u.sparing, engine := u.engine, draws := u.draws }

/-! ## Chapter 4: repairs and suspects -/

/-- R66 to R69, in that order: what becomes of a repair offer. Then R48, R65, R76, R103: what a read hands on, in order:
the repair offer of every CORRECTED and UNCORRECTABLE chunk, for a read that makes one while REPAIR_ENABLE is on; one
suspect update when a chunk is CORRECTED; one sparing request when a chunk is UNCORRECTABLE. R11: the sets of chunks by
class, lowest chunk first. That no take comes between
the last two is the model's choice (log 14). -/
def Obligations.RepairOfferIsSettledInOrder : Prop :=
  (∀ (s : State) (src : ReadSource) (chunks : List (ChunkNumber × ChunkContent)),
    (((∃ e ∈ s.tt, e.home = src.home ∧ e.op.isWrite = true ∧ src.position < e.position) ∨
        s.isMoving src.home = true) → s.settleRepair src chunks = s) ∧
    ((∀ e ∈ s.tt, e.home = src.home → e.op.isWrite = true → e.position ≤ src.position) →
      s.isMoving src.home = false →
      ((∃ q ∈ s.repairs.queue, q.home = src.home) →
        s.settleRepair src chunks = { s with repairs := { s.repairs with
          queue := s.repairs.queue.map fun q =>
            if q.home = src.home then { q with chunks := mergeChunks q.chunks chunks } else q } }) ∧
      ((∀ q ∈ s.repairs.queue, q.home ≠ src.home) → 4 ≤ s.repairs.queue.length →
        s.settleRepair src chunks =
          { s with
            events := s.events.offer s.cfg.eventMask
              { kind := .repairDropped, origin := src.origin, location := some src.location,
                chunk := chunks.head?.map (·.1), chunkCount := some chunks.length, tag := src.tag }
            counters := { s.counters with repairsDropped := advanced s.counters.repairsDropped true } }) ∧
      ((∀ q ∈ s.repairs.queue, q.home ≠ src.home) → s.repairs.queue.length < 4 →
        s.settleRepair src chunks =
          { s with
            repairs := { s.repairs with
              queue := s.repairs.queue ++ [⟨src.home, src.location, chunks, s.nextPosition⟩] }
            nextPosition := s.nextPosition + 1 }))) ∧
    (∀ (old new : List (ChunkNumber × ChunkContent)) (c : ChunkNumber),
      contentOf (mergeChunks old new) c = (contentOf new c).or (contentOf old c)) ∧
  (∀ r : LineResult,
    (correctedChunks r).Pairwise (· < ·) ∧ (uncorrectableChunks r).Pairwise (· < ·) ∧
    ∀ c : ChunkNumber, (c ∈ correctedChunks r ↔ ∃ d, r[c] = .corrected d) ∧
      (c ∈ uncorrectableChunks r ↔ r[c] = .uncorrectable) ∧ (r[c].isPoisoned = true ↔ r[c] = .poisoned)) ∧
  (∀ r : LineResult, (repairChunks r).Pairwise (fun a b => a.1 < b.1) ∧
    ∀ (c : ChunkNumber) (x : ChunkContent), (c, x) ∈ repairChunks r ↔
      (∃ d, r[c] = .corrected d ∧ x = .data d) ∨ (r[c] = .uncorrectable ∧ x = .poison)) ∧
  ∀ (s : State) (src : ReadSource) (r : LineResult) (repair : Bool),
    ∃ offered updated : State,
      (repair = true ∧ s.cfg.repairEnable = true ∧ repairChunks r ≠ [] →
        offered = s.settleRepair src (repairChunks r)) ∧
      (¬ (repair = true ∧ s.cfg.repairEnable = true ∧ repairChunks r ≠ []) → offered = s) ∧
      ((∃ (c : ChunkNumber) (d : ChunkData), r[c] = .corrected d) → updated = offered.suspectUpdate src.location src.origin src.tag) ∧
      ((∀ (c : ChunkNumber) (d : ChunkData), r[c] ≠ .corrected d) → updated = offered) ∧
      ((∃ c : ChunkNumber, r[c] = .uncorrectable) →
        s.handOn src r repair = updated.offerSparing ⟨src.home, .uncorrectable, src.origin⟩ src.tag) ∧
      ((∀ c : ChunkNumber, r[c] ≠ .uncorrectable) → s.handOn src r repair = updated)

/-- R72, R136: an issued repair ends; DONE advances REPAIRS_WRITTEN, in every service state. -/
def Obligations.IssuedRepairEnds : Prop :=
  ∀ (s : State) (n : SlotNumber) (line : Nat) (l : Location) (h count : Nat),
    OutOfReset s → s.memory.slots[n] = .busy .chunkWrite line l (.repair h) count →
    (∀ stored, ∃ u, exec (.completion n (.done stored)) s = .next u ∧ SameButPhases u.tt s.tt ∧
      QuiesceEnds s.engine u ∧
      u = { s with
        memory := s.slotFreed n, tt := u.tt, engine := u.engine, out := .none
        repairs := { s.repairs with issued := s.repairs.issued.filter fun r => r.slot != n }
        counters := { s.counters with repairsWritten := advanced s.counters.repairsWritten true } }) ∧
    ∃ u, exec (.completion n .failed) s = .next u ∧ SameButPhases u.tt s.tt ∧
      QuiesceEnds s.engine u ∧
      u = { s with
        memory := s.slotFreed n, tt := u.tt, engine := u.engine, out := .none
        repairs := { s.repairs with issued := s.repairs.issued.filter fun r => r.slot != n }
        events := s.events.offer s.cfg.eventMask
          { kind := .downstreamFailed, origin := .memoryPort, location := some l, detail := some (.slot n) } }

/-- R77, R78, R79: a suspect update. At the threshold the record leaves and a THRESHOLD request is offered for the
line that lives at the location; RequestSpareReportsTheEnqueueRule says what becomes of an offered request. -/
def Obligations.SuspectUpdateCountsUpToTheThreshold : Prop :=
  ∀ (s : State) (l : Location) (origin : Origin) (tag : Option Tag), SuspectLaw s →
    (∀ r ∈ s.suspects, r.location = l → r.count + 1 < s.cfg.spareThreshold →
      s.suspectUpdate l origin tag =
        { s with suspects := (s.suspects.filter fun x => x.location != l) ++ [⟨l, r.count + 1, true⟩] }) ∧
    (∀ r ∈ s.suspects, r.location = l → r.count + 1 = s.cfg.spareThreshold → ∀ h, s.homeOf l = some h →
      s.suspectUpdate l origin tag =
        State.offerSparing { s with suspects := s.suspects.filter fun x => x.location != l }
          ⟨h, .threshold, origin⟩ tag) ∧
    ((∀ r ∈ s.suspects, r.location ≠ l) → s.cfg.spareThreshold = 1 → ∀ h, s.homeOf l = some h →
      s.suspectUpdate l origin tag = s.offerSparing ⟨h, .threshold, origin⟩ tag) ∧
    ((∀ r ∈ s.suspects, r.location ≠ l) → 1 < s.cfg.spareThreshold →
      s.suspectUpdate l origin tag =
        { s with suspects :=
            (if s.suspects.length < 32 then s.suspects else s.suspects.drop 1) ++ [⟨l, 1, true⟩] })

/-! ## Chapter 5: the Remap Table and the Spare Pool -/

/-- R85, R86: a lookup finds the one non-FREE entry of the home line, and gives the line's current location; the
reverse lookup finds the line that lives at a spare, and never by a new target. -/
def Obligations.MapIsLookedUpByHomeLineAndBySpare : Prop :=
  ∀ s : State, HomesLaw s → s.namedSpares.Nodup → ∀ (i : EntryNumber) (h : Nat),
    (s.map[i].home? = some h → s.mapIndex h = some i) ∧ s.homeOf (.home h) = some h ∧
    ((∀ j : EntryNumber, s.map[j].home? ≠ some h) → s.mapIndex h = none ∧ s.currentLocation h = .home h ∧
      s.resolve h = some (.home h)) ∧
    (∀ k, s.map[i] = .active h k → s.currentLocation h = .spare k ∧ s.resolve h = some (.spare k) ∧
      s.isMoving h = false ∧ s.homeOf (.spare k) = some h) ∧
    (∀ n, s.map[i] = .moving h .home n → s.currentLocation h = .home h ∧ s.resolve h = none ∧
      s.isMoving h = true ∧ s.homeOf (.spare n) = none) ∧
    ∀ k n, s.map[i] = .moving h (.spare k) n → s.currentLocation h = .spare k ∧ s.resolve h = none ∧
      s.isMoving h = true ∧ s.homeOf (.spare k) = some h ∧ s.homeOf (.spare n) = none

/-- R95, R96, R199: LOAD MAP and LOAD RETIRED, test by test; a table without a FREE entry while a spare is AVAILABLE
does not arise (R89). -/
def Obligations.MapAndRetirementAreLoaded : Prop :=
  (∀ (s : State) (home : BitVec 32) (k : Byte), TakesCommands s →
    (s.service ≠ .halted → exec (.loadMap home k) s = .next ((s.framed 8).result 0x30 .refusedState [])) ∧
    (s.service = .halted →
      ((s.visibleLines ≤ home.toNat ∨ s.cfg.spareLines ≤ k.toNat) →
        exec (.loadMap home k) s = .next ((s.framed 8).result 0x30 .badArgument [])) ∧
      (home.toNat < s.visibleLines → k.toNat < s.cfg.spareLines →
        ((∃ j : EntryNumber, s.map[j].home? = some home.toNat) →
          exec (.loadMap home k) s = .next ((s.framed 8).result 0x30 .inUse [])) ∧
        ((∀ j : EntryNumber, s.map[j].home? ≠ some home.toNat) →
          (s.spares[k.toNat]? ≠ some .available →
            exec (.loadMap home k) s = .next ((s.framed 8).result 0x30 .inUse [])) ∧
          (s.spares[k.toNat]? = some .available → ∀ i : EntryNumber, IsLowestFree s i →
            exec (.loadMap home k) s =
              .next { (s.framed 8).result 0x30 .ok [BitVec.ofNat 8 i.val] with
                map := s.map.set i.1 (.active home.toNat k.toNat) i.2
                spares := s.spares.set k.toNat .allocated }))))) ∧
  ∀ (s : State) (k : Byte), TakesCommands s →
    (s.service ≠ .halted → exec (.loadRetired k) s = .next ((s.framed 4).result 0x31 .refusedState [])) ∧
    (s.service = .halted →
      (s.cfg.spareLines ≤ k.toNat → exec (.loadRetired k) s = .next ((s.framed 4).result 0x31 .badArgument [])) ∧
      (k.toNat < s.cfg.spareLines →
        (s.spares[k.toNat]? = some .available →
          exec (.loadRetired k) s =
            .next { (s.framed 4).result 0x31 .ok [] with spares := s.spares.set k.toNat .retired }) ∧
        (s.spares[k.toNat]? = some .allocated →
          exec (.loadRetired k) s = .next ((s.framed 4).result 0x31 .inUse [])) ∧
        (s.spares[k.toNat]? = some .retired →
          exec (.loadRetired k) s = .next ((s.framed 4).result 0x31 .ok []))))

/-! ## Chapter 6: sparing requests and migration -/

/-- R105 with R104: REQUEST SPARE outside RUNNING, out of range, and the four outcomes of the enqueue rule; and that rule
for any offered request, a read's with the tag of its entry. -/
def Obligations.RequestSpareReportsTheEnqueueRule : Prop :=
  (∀ (s : State) (home : BitVec 32), TakesCommands s →
    (s.service ≠ .running →
      exec (.requestSpare home) s = .next ((s.framed 7).result 0x32 .refusedState [])) ∧
    (s.service = .running → s.visibleLines ≤ home.toNat →
      exec (.requestSpare home) s = .next ((s.framed 7).result 0x32 .badArgument [])) ∧
    (s.service = .running → home.toNat < s.visibleLines →
      ((s.isMoving home.toNat = true ∨ ∃ q ∈ s.sparing, q.home = home.toNat) →
        exec (.requestSpare home) s = .next ((s.framed 7).result 0x32 .already [])) ∧
      (s.isMoving home.toNat = false → (∀ q ∈ s.sparing, q.home ≠ home.toNat) →
        (8 ≤ s.sparing.length →
          exec (.requestSpare home) s =
            .next { (s.framed 7).result 0x32 .full [] with
              events := s.events.offer s.cfg.eventMask
                { kind := .spareQueueFull, origin := .management,
                  location := some (s.currentLocation home.toNat), detail := some (.reason .command) } }) ∧
        (s.sparing.length < 8 →
          exec (.requestSpare home) s =
            .next { (s.framed 7).result 0x32 .queued [] with
              sparing := s.sparing ++ [⟨home.toNat, .command, .management⟩] })))) ∧
  ∀ (s : State) (q : SparingRequest) (tag : Option Tag),
    ((s.isMoving q.home = true ∨ ∃ x ∈ s.sparing, x.home = q.home) → s.offerSparing q tag = s) ∧
    (s.isMoving q.home = false → (∀ x ∈ s.sparing, x.home ≠ q.home) →
      (8 ≤ s.sparing.length →
        s.offerSparing q tag = { s with
          events := s.events.offer s.cfg.eventMask
            { kind := .spareQueueFull, origin := q.origin, location := some (s.currentLocation q.home),
              tag := tag, detail := some (.reason q.reason) } }) ∧
      (s.sparing.length < 8 → s.offerSparing q tag = { s with sparing := s.sparing ++ [q] }))

/-- R111: when an operation of a line is BUSY. R108 to R111 with R92 and R73: a take. When its conditions do not hold, TAKE has no effect (log 4). -/
def Obligations.TakeMovesTheHeadRequestsLine : Prop :=
  (∀ (s : State) (h : Nat), s.lineBusy h = true ↔
    (∃ e ∈ s.tt, e.home = h ∧ (e.phase = .issued ∨ e.phase = .issuedWrite)) ∨
    (∃ r ∈ s.repairs.issued, r.record.home = h) ∨ ∃ r ∈ s.scrub.read, r.home = h ∧ r.granted ≠ none) ∧
  ∀ s : State, OutOfReset s →
    (¬ (s.engine = .idle ∧ s.service = .running ∧ s.sparing ≠ []) → exec .take s = .next s.quiet) ∧
    ∀ (r : SparingRequest) (rest : List SparingRequest), s.engine = .idle → s.service = .running →
      s.sparing = r :: rest →
      ((∀ k : Nat, s.spares[k]? ≠ some .available) →
        exec .take s = .next { s.quiet with
          sparing := rest
          events := s.events.offer s.cfg.eventMask
            { kind := .noSpare, origin := .migration, location := some (s.currentLocation r.home),
              detail := some (.reason r.reason) } }) ∧
      ∀ (n : Nat) (i : EntryNumber) (old : OldTarget), IsLowestAvailable s n →
        ((s.mapIndex r.home = some i ∧ ∃ a, s.map[i] = .active r.home a ∧ old = .spare a) ∨
          (s.mapIndex r.home = none ∧ IsLowestFree s i ∧ old = .home)) →
        ∃ u, exec .take s = .next u ∧ SameButPhases u.tt s.tt ∧
          (∀ e ∈ u.tt, e.home = r.home → e.phase ≠ .issued → e.phase ≠ .issuedWrite → e.phase = .waiting) ∧
          u = { s.quiet with
            sparing := rest
            spares := s.spares.set n .allocated
            map := s.map.set i.1 (.moving r.home old n) i.2
            repairs := { s.repairs with queue := s.repairs.queue.filter fun q => q.home != r.home }
            engine := if s.lineBusy r.home then .quiesce ⟨r.home, i, old, n⟩
                      else .copyRead ⟨r.home, i, old, n⟩ none
            tt := u.tt }

/-- R114, R115, R124: the end of the copy read. DONE forms the copy content; FAILED reverts with MIGRATION_FAILED and
without DOWNSTREAM_FAILED; in ABORTING either reverts silently. -/
def Obligations.CopyReadEnds : Prop :=
  ∀ (s : State) (n : SlotNumber) (line : Nat) (l : Location) (count : Nat) (m : Migration),
    OutOfReset s → s.memory.slots[n] = .busy .lineRead line l .copyRead count → s.engine = .copyRead m (some n) →
    (m.old = .home → m.reverted = .free) ∧ (∀ a, m.old = .spare a → m.reverted = .active m.home a) ∧
    (∀ stored, s.service ≠ .aborting →
      ∃ (u : State) (content : Vector ChunkContent 8), exec (.completion n (.done stored)) s = .next u ∧
        (∀ c : ChunkNumber,
          (∀ d, (classifyLine (completedLine s.draws stored))[c].supplied = some d → content[c] = .data d) ∧
          ((classifyLine (completedLine s.draws stored))[c].supplied = none → content[c] = .poison)) ∧
        SameButPhases u.tt s.tt ∧
        u = { s with memory := s.slotFreed n, engine := .copyWrite m none content, tt := u.tt, out := .none,
                     draws := u.draws }) ∧
    (s.service ≠ .aborting →
      ∃ u, exec (.completion n .failed) s = .next u ∧ SameButPhases u.tt s.tt ∧
        u = { s with
          memory := s.slotFreed n, engine := .idle, tt := u.tt, out := .none
          map := s.map.set m.entry.1 m.reverted m.entry.2
          spares := s.spares.set m.new .available
          events := s.events.offer s.cfg.eventMask
            { kind := .migrationFailed, origin := .migration, location := some (m.old.location m.home),
              detail := some (.stage .read) }
          counters := { s.counters with migrationsFailed := advanced s.counters.migrationsFailed true } }) ∧
    (∀ status, s.service = .aborting →
      ∃ u, exec (.completion n status) s = .next u ∧ SameButPhases u.tt s.tt ∧
        u = { s with
          memory := s.slotFreed n, engine := .idle, tt := u.tt, out := .none, draws := u.draws
          map := s.map.set m.entry.1 m.reverted m.entry.2
          spares := s.spares.set m.new .available })

/-- R117, R118, R93, R81, R124: the end of the copy write, in every service state: DONE commits; FAILED reverts and
retires the new spare. -/
def Obligations.CopyWriteEnds : Prop :=
  ∀ (s : State) (n : SlotNumber) (line : Nat) (l : Location) (count : Nat) (m : Migration)
    (content : Vector ChunkContent 8),
    OutOfReset s → s.memory.slots[n] = .busy .chunkWrite line l .copyWrite count →
    s.engine = .copyWrite m (some n) content →
    (m.old = .home → m.reverted = .free) ∧ (∀ a, m.old = .spare a → m.reverted = .active m.home a) ∧
    (∀ stored, ∃ u, exec (.completion n (.done stored)) s = .next u ∧ SameButPhases u.tt s.tt ∧
      u = { s with
        memory := s.slotFreed n, engine := .idle, tt := u.tt, out := .none
        map := s.map.set m.entry.1 (.active m.home m.new) m.entry.2
        spares := match m.old with
          | .home => s.spares
          | .spare a => s.spares.set a .retired
        suspects := s.suspects.filter fun r => r.location != m.old.location m.home
        events := s.events.offer s.cfg.eventMask
          { kind := .spared, origin := .migration, location := some (m.old.location m.home),
            detail := some (.spare m.new) }
        counters := { s.counters with migrationsDone := advanced s.counters.migrationsDone true } }) ∧
    ∃ u, exec (.completion n .failed) s = .next u ∧ SameButPhases u.tt s.tt ∧
      u = { s with
        memory := s.slotFreed n, engine := .idle, tt := u.tt, out := .none
        map := s.map.set m.entry.1 m.reverted m.entry.2
        spares := s.spares.set m.new .retired
        events := s.events.offer s.cfg.eventMask
          { kind := .migrationFailed, origin := .migration, location := some (m.old.location m.home),
            detail := some (.stage .write) }
        counters := { s.counters with migrationsFailed := advanced s.counters.migrationsFailed true } }

/-! ## Chapter 7: the memory port -/

/-- R128, R130, R127: a grant goes to the chosen requester in the lowest-numbered FREE slot, and the operation is
offered with contents formed at the grant; without ready, a FREE slot or an eligible requester none is made. -/
def Obligations.GrantTakesTheLowestFreeSlot : Prop :=
  (∀ (s : State) (ready : Bool), OutOfReset s →
    (ready = false ∨ (∀ n : SlotNumber, s.memory.slots[n] ≠ .free) ∨ s.chooseGrant = none) →
    exec (.grant ready) s = .next s.quiet) ∧
  ∀ (s : State) (n : SlotNumber) (c : Candidate), OutOfReset s → s.memory.slots[n] = .free →
    (∀ m : SlotNumber, m < n → s.memory.slots[m] ≠ .free) → s.chooseGrant = some c →
    ∃ u, exec (.grant true) s = .next u ∧
      (∀ p t, c.requester = .entry p t → SameButPhases (u.others p t) (s.others p t)) ∧
      ((∀ p t, c.requester ≠ .entry p t) → SameButPhases u.tt s.tt) ∧
      ((∀ h, c.requester ≠ .repair h) → u.repairs = s.repairs) ∧
      (c.requester ≠ .scrub → u.scrub = s.scrub) ∧
      (c.requester ≠ .copyRead → c.requester ≠ .copyWrite → u.engine = s.engine) ∧
      u.memory.slots =
        s.memory.slots.set n.1 (.busy c.kind (s.physicalLine c.location) c.location c.requester 0) n.2 ∧
      u = { s with
        memory := u.memory, tt := u.tt, repairs := u.repairs, scrub := u.scrub, engine := u.engine
        out := ⟨[], [], [⟨c.kind, s.physicalLine c.location, n, c.groups.map fun g => (g.1, g.2.stored)⟩], []⟩ }

/-- R4, R5, R131: the physical line of a location, and what the per-line exclusion holds: a CHUNK WRITE behind any BUSY
operation or an ORPHANED CHUNK WRITE of its physical line, a LINE READ behind a BUSY CHUNK WRITE. R70, R113, R116, R150:
when the head repair, the engine and the scrub read ask (a line with a queued repair is not MOVING, R73), and R130: who
is eligible. R132, R133, R135: the order of the classes, and oldest first among the PARTIAL write phases; a requester is
chosen whenever one is eligible. In HALTED and ABORTING no grant is made (R164, log 12). -/
def Obligations.GrantClassesAreTakenInOrder : Prop :=
  (∀ (s : State) (k : Nat), s.visibleLines = 2 ^ s.cfg.installedLog2 - s.cfg.spareLines ∧
    s.physicalLine (.home k) = k ∧ s.physicalLine (.spare k) = s.visibleLines + k) ∧
  (∀ (s : State) (c : Candidate), s.eligible c = false ↔ ∃ n : SlotNumber,
    (∃ kind l q count, s.memory.slots[n] = .busy kind (s.physicalLine c.location) l q count ∧
      (c.kind = .chunkWrite ∨ kind = .chunkWrite)) ∨
    (c.kind = .chunkWrite ∧ ∃ l, s.memory.slots[n] = .orphaned .chunkWrite (s.physicalLine c.location) l)) ∧
  (∀ (s : State) (r : RepairRecord) (rest : List RepairRecord), s.repairs.queue = r :: rest →
    (((∃ e ∈ s.tt, e.home = r.home ∧ (e.phase = .issued ∨ e.phase = .issuedWrite)) ∨
        ∃ x ∈ s.scrub.read, x.home = r.home ∧ x.granted ≠ none) → s.repairCandidate = none) ∧
    ((∀ e ∈ s.tt, e.home = r.home → e.phase ≠ .issued ∧ e.phase ≠ .issuedWrite) →
      (∀ x ∈ s.scrub.read, x.home = r.home → x.granted = none) → ∀ l, s.resolve r.home = some l →
      s.repairCandidate = some ⟨.writeBack, .repair r.home, .chunkWrite, l, r.chunks⟩)) ∧
  (∀ s : State, s.repairs.queue = [] → s.repairCandidate = none) ∧
  (∀ (s : State) (r : ScrubRead), s.scrub.read = some r →
    let held := (∃ o ∈ s.tt, o.home = r.home ∧ o.op.isWrite = true ∧ o.position < r.position) ∨
      (∃ q ∈ s.repairs.queue, q.home = r.home ∧ q.position < r.position) ∨
      (∃ q ∈ s.repairs.issued, q.record.home = r.home) ∨ s.isMoving r.home = true
    ((r.granted ≠ none ∨ held) → s.scrubCandidate = none) ∧
    (r.granted = none → ¬ held → ∃ l, s.resolve r.home = some l ∧
      s.scrubCandidate = some ⟨.scrub, .scrub, .lineRead, l, []⟩)) ∧
  (∀ s : State, s.scrub.read = none → s.scrubCandidate = none) ∧
  (∀ s : State,
    (∀ m, s.engine = .copyRead m none →
      s.engineCandidate = some ⟨.migration, .copyRead, .lineRead, m.old.location m.home, []⟩) ∧
    (∀ m content, s.engine = .copyWrite m none content →
      s.engineCandidate = some ⟨.migration, .copyWrite, .chunkWrite, .spare m.new,
        chunkNumbers.map fun c => (c, content[c])⟩) ∧
    ((∀ m, s.engine ≠ .copyRead m none) → (∀ m content, s.engine ≠ .copyWrite m none content) →
      s.engineCandidate = none)) ∧
  (∀ (s : State) (e : Entry) (c : Candidate),
    (s.eligibleEntry e = some c ↔ s.entryCandidate e = some c ∧ s.eligible c = true) ∧
    (s.scrubChoice = some c ↔ s.scrubCandidate = some c ∧ s.eligible c = true)) ∧
  (∀ s : State, s.service ≠ .running → s.service ≠ .stopping → s.chooseGrant = none) ∧
  ∀ s : State, (s.service = .running ∨ s.service = .stopping) →
    (∀ c, s.chooseGrant = some c →
      s.eligible c = true ∧
      (∀ k, s.engineCandidate = some k → s.eligible k = true → c = k) ∧
      (∀ p t, c.cls = .writeBack → c.requester = .entry p t →
        ∃ e ∈ s.tt, e.port = p ∧ e.tag = t ∧ e.phase = .writeReady ∧ s.eligibleEntry e = some c ∧
          ∀ x ∈ s.tt, x.phase = .writeReady → s.eligibleEntry x ≠ none → e.position ≤ x.position) ∧
      (c.requester = .scrub ∨ c.cls = .port ∨ (∃ h, c.requester = .repair h) →
        ∀ e ∈ s.tt, e.phase = .writeReady → s.eligibleEntry e = none) ∧
      (c.requester = .scrub ∨ c.cls = .port →
        ∀ k, s.repairCandidate = some k → s.eligible k = false) ∧
      (c.cls = .port → s.memory.passOver = 32 → s.scrubChoice = none) ∧
      (c.requester = .scrub → s.memory.passOver ≠ 32 →
        ∀ e ∈ s.tt, e.phase = .ready → s.eligibleEntry e = none)) ∧
    (s.chooseGrant = none →
      (∀ k, s.engineCandidate = some k ∨ s.repairCandidate = some k ∨ s.scrubCandidate = some k →
        s.eligible k = false) ∧
      ∀ e ∈ s.tt, s.eligibleEntry e = none)

/-- R134, R135: within PORT the port not granted last goes first when both wait, each with its oldest eligible READY
entry; the alternation mark and the pass-over count after a grant. -/
def Obligations.PortsAlternateAndTheScrubIsPassedOver : Prop :=
  ∀ (s : State) (c : Candidate), s.chooseGrant = some c →
    (c.cls = .port → ∃ e ∈ s.tt, c.requester = .entry e.port e.tag ∧ e.phase = .ready ∧
      s.eligibleEntry e = some c ∧
      (∀ x ∈ s.tt, x.port = e.port → x.phase = .ready → s.eligibleEntry x ≠ none → e.position ≤ x.position) ∧
      ((∃ x ∈ s.tt, x.port ≠ e.port ∧ x.phase = .ready ∧ s.eligibleEntry x ≠ none) → s.memory.mark ≠ e.port)) ∧
    ∀ u, OutOfReset s → (∃ n : SlotNumber, s.memory.slots[n] = .free) → exec (.grant true) s = .next u →
      (∀ p t, c.cls = .port → c.requester = .entry p t →
        u.memory.mark = p ∧
        u.memory.passOver = if s.scrubChoice = none then s.memory.passOver else min 32 (s.memory.passOver + 1)) ∧
      (c.cls ≠ .port → u.memory.mark = s.memory.mark) ∧
      (c.requester = .scrub → u.memory.passOver = 0) ∧
      (c.cls ≠ .port → c.requester ≠ .scrub → u.memory.passOver = s.memory.passOver)

/-- R31, R71, R113, R116, R150: the granted requester records its slot and its location, each by its own rule; the
other requesters stay as they are. -/
def Obligations.GrantedRequesterRecordsItsIssue : Prop :=
  ∀ (s : State) (c : Candidate) (n : SlotNumber) (u : State), OutOfReset s →
    s.memory.slots[n] = .free → (∀ m : SlotNumber, m < n → s.memory.slots[m] ≠ .free) → s.chooseGrant = some c →
    exec (.grant true) s = .next u →
    (∀ p t, c.requester = .entry p t → u.repairs = s.repairs ∧ u.scrub = s.scrub ∧ u.engine = s.engine ∧
      ∀ e ∈ s.tt, e.port = p → e.tag = t →
        { e with phase := (if c.kind = .lineRead then .issued else .issuedWrite), slot := some n,
                 location := some c.location } ∈ u.tt) ∧
    (∀ h, c.requester = .repair h → ∃ r rest, s.repairs.queue = r :: rest ∧ r.home = h ∧
      c.groups = r.chunks ∧ u.repairs = ⟨rest, s.repairs.issued ++ [⟨r, n⟩]⟩ ∧
      u.scrub = s.scrub ∧ u.engine = s.engine ∧
      ∀ e ∈ u.tt, e.home = h → e.phase ≠ .issued → e.phase ≠ .issuedWrite → e.phase = .waiting) ∧
    (c.requester = .scrub → ∃ r, s.scrub.read = some r ∧ s.resolve r.home = some c.location ∧
      u.scrub = { s.scrub with state := .reading, read := some { r with granted := some (c.location, n) } } ∧
      u.repairs = s.repairs ∧ u.engine = s.engine) ∧
    (c.requester = .copyRead → ∃ m, s.engine = .copyRead m none ∧ c.location = m.old.location m.home ∧
      u.engine = .copyRead m (some n) ∧ u.repairs = s.repairs ∧ u.scrub = s.scrub) ∧
    (c.requester = .copyWrite → ∃ m content, s.engine = .copyWrite m none content ∧ c.location = .spare m.new ∧
      c.groups = chunkNumbers.map (fun k => (k, content[k])) ∧ u.engine = .copyWrite m (some n) content ∧
      u.repairs = s.repairs ∧ u.scrub = s.scrub)

/-- R139, R140: a completion for an ORPHANED slot or for a FREE slot is late. -/
def Obligations.LateCompletionIsReported : Prop :=
  ∀ (s : State) (n : SlotNumber) (status : CompletionStatus), OutOfReset s →
    (∀ kind line l, s.memory.slots[n] = .orphaned kind line l →
      exec (.completion n status) s = .next { s.quiet with
        memory := s.slotFreed n
        events := s.events.offer s.cfg.eventMask
          { kind := .lateCompletion, origin := .memoryPort, location := some l, detail := some (.slot n) } }) ∧
    (s.memory.slots[n] = .free →
      exec (.completion n status) s = .next { s.quiet with
        events := s.events.offer s.cfg.eventMask
          { kind := .lateCompletion, origin := .memoryPort, detail := some (.slot n) } })

/-- R137, R138: an expiry orphans the slot, counts, reports before anything the requester offers, and ends the operation
for its requester: an entry is answered (R52, R60, R62); an issued repair ends (R72); the scrub read ends, and outside
ABORTING the cursor advances with its pass end (R152, R153, R155); a migration reverts, outside ABORTING or after a copy
write with MIGRATION_FAILED and its counter (R115, R118, R124). A SLOT_EXPIRY that is not due has no effect (log 4). -/
def Obligations.ExpiryOrphansTheSlot : Prop :=
  ∀ (s : State) (n : SlotNumber), OutOfReset s →
    (s.expiryDue n = false → exec (.slotExpiry n) s = .next s.quiet) ∧
    ∀ kind line l q count, s.memory.slots[n] = .busy kind line l q count → s.cfg.downstreamTimeout ≠ 0 →
      s.cfg.downstreamTimeout ≤ count →
      let expired : State := { s with
        out := .none
        memory := { s.memory with slots := s.memory.slots.set n.1 (.orphaned kind line l) n.2 }
        counters := { s.counters with downstreamTimeouts := advanced s.counters.downstreamTimeouts true }
        events := s.events.offer s.cfg.eventMask
          { kind := .downstreamTimeout, origin := .memoryPort, location := some l, detail := some (.slot n) } }
      let last := decide (s.visibleLines ≤ s.scrub.cursor + 1)
      let failed (m : Migration) (stage : Stage) : Event :=
        { kind := .migrationFailed, origin := .migration, location := some (m.old.location m.home),
          detail := some (.stage stage) }
      ∃ u, exec (.slotExpiry n) s = .next u ∧ u.memory = expired.memory ∧
        (∃ later, u.events = expired.events.offers s.cfg.eventMask later) ∧
        u.counters.downstreamTimeouts = expired.counters.downstreamTimeouts ∧
        (∀ p t e, q = .entry p t → s.entryOf p t = some e →
          SameButPhases u.tt (s.others p t) ∧ QuiesceEnds s.engine u ∧
          u = { expired with
            tt := u.tt, engine := u.engine
            out := (s.quiet.respond p
              ⟨t, if s.service = .aborting then .aborted else .errMemory, []⟩).out }) ∧
        (∀ h, q = .repair h →
          SameButPhases u.tt s.tt ∧ QuiesceEnds s.engine u ∧
          u = { expired with
            tt := u.tt, engine := u.engine
            repairs := { s.repairs with issued := s.repairs.issued.filter fun r => r.slot != n } }) ∧
        (∀ r g, q = .scrub → s.scrub.read = some r → r.granted = some g →
          SameButPhases u.tt s.tt ∧ QuiesceEnds s.engine u ∧
          (s.service ≠ .aborting →
            u = { expired with
              tt := u.tt, engine := u.engine
              scrub := ⟨if s.service = .running then .waiting else .off, if last then 0 else s.scrub.cursor + 1,
                s.scrub.countdown, none⟩
              suspects := if last then ageSuspects s.suspects else s.suspects
              counters := { expired.counters with scrubPasses := advanced s.counters.scrubPasses last }
              events := expired.events.offers s.cfg.eventMask
                (if last then [{ kind := .scrubPass, origin := .scrub }] else []) }) ∧
          (s.service = .aborting →
            u = { expired with
              tt := u.tt, engine := u.engine, scrub := ⟨.off, s.scrub.cursor, s.scrub.countdown, none⟩ })) ∧
        (∀ m, q = .copyRead → s.engine = .copyRead m (some n) →
          SameButPhases u.tt s.tt ∧
          (s.service ≠ .aborting →
            u = { expired with
              tt := u.tt, engine := .idle
              map := s.map.set m.entry.1 m.reverted m.entry.2
              spares := s.spares.set m.new .available
              events := expired.events.offer s.cfg.eventMask (failed m .read)
              counters := { expired.counters with
                migrationsFailed := advanced s.counters.migrationsFailed true } }) ∧
          (s.service = .aborting →
            u = { expired with
              tt := u.tt, engine := .idle
              map := s.map.set m.entry.1 m.reverted m.entry.2
              spares := s.spares.set m.new .available })) ∧
        (∀ m content, q = .copyWrite → s.engine = .copyWrite m (some n) content →
          SameButPhases u.tt s.tt ∧
          u = { expired with
            tt := u.tt, engine := .idle
            map := s.map.set m.entry.1 m.reverted m.entry.2
            spares := s.spares.set m.new .retired
            events := expired.events.offer s.cfg.eventMask (failed m .write)
            counters := { expired.counters with
              migrationsFailed := advanced s.counters.migrationsFailed true } })

/-! ## Chapter 8: the timebase and the patrol scrub -/

/-- R145, R146, R137, R148: a tick, when nothing is due before it. The second clause is the model's choice (log 5): on
an empty queue one microsecond of the base passes, and the one that completes the tick period is a TICK. -/
def Obligations.TickReachesSlotsAndCountdown : Prop :=
  ∀ s : State, OutOfReset s → NothingDue s →
    (∃ u, exec .tick s = .next u ∧
      (∀ (n : SlotNumber) kind line l q count, s.memory.slots[n] = .busy kind line l q count →
        u.memory.slots[n] =
          .busy kind line l q (if s.cfg.downstreamTimeout = 0 then count else count + 1)) ∧
      (∀ n : SlotNumber, s.memory.slots[n].isBusy = false → u.memory.slots[n] = s.memory.slots[n]) ∧
      u = { s with
        out := .none, microseconds := 0
        memory := { s.memory with slots := u.memory.slots }
        scrub := { s.scrub with
          countdown := if s.service = .running ∧ s.scrub.state ≠ .off then s.scrub.countdown - 1
                       else s.scrub.countdown } }) ∧
    (s.pending = [] →
      step s =
        if s.microseconds + 1 < 2 ^ s.cfg.tickShift then
          .next { s with out := .none, microseconds := s.microseconds + 1 }
        else exec .tick s)

/-- R148, R149: the countdown's expiry. In WAITING it creates a scrub read at the next position, for the cursor's line
or, past a MOVING line, for the next; in PENDING and READING it only reloads. Not due, it has no effect (log 4). First,
R80: the aging at a pass end (`ageSuspects`). -/
def Obligations.CountdownExpiryCreatesAScrubRead : Prop :=
  (ageSuspects [] = [] ∧ ∀ (x : SuspectRecord) (l : List SuspectRecord),
    (x.touched = true → ageSuspects (x :: l) = { x with touched := false } :: ageSuspects l) ∧
    (x.touched = false → 1 < x.count → ageSuspects (x :: l) = { x with count := x.count - 1 } :: ageSuspects l) ∧
    (x.touched = false → x.count = 1 → ageSuspects (x :: l) = ageSuspects l)) ∧
  ∀ s : State, OutOfReset s →
    (¬ (s.service = .running ∧ s.scrub.state ≠ .off ∧ s.scrub.countdown = 0) →
      exec .countdownExpiry s = .next s.quiet) ∧
    (s.service = .running → s.scrub.countdown = 0 →
      ((s.scrub.state = .pending ∨ s.scrub.state = .reading) →
        exec .countdownExpiry s =
          .next { s.quiet with scrub := { s.scrub with countdown := s.cfg.scrubInterval } }) ∧
      (s.scrub.state = .waiting → s.isMoving s.scrub.cursor = false →
        exec .countdownExpiry s = .next { s.quiet with
          scrub := ⟨.pending, s.scrub.cursor, s.cfg.scrubInterval, some ⟨s.scrub.cursor, s.nextPosition, none⟩⟩
          nextPosition := s.nextPosition + 1 }) ∧
      (s.scrub.state = .waiting → s.isMoving s.scrub.cursor = true → s.scrub.cursor + 1 < s.visibleLines →
        exec .countdownExpiry s = .next { s.quiet with
          scrub := ⟨.pending, s.scrub.cursor + 1, s.cfg.scrubInterval,
            some ⟨s.scrub.cursor + 1, s.nextPosition, none⟩⟩
          nextPosition := s.nextPosition + 1 }) ∧
      (s.scrub.state = .waiting → s.isMoving s.scrub.cursor = true → s.visibleLines ≤ s.scrub.cursor + 1 →
        exec .countdownExpiry s = .next { s.quiet with
          scrub := ⟨.pending, 0, s.cfg.scrubInterval, some ⟨0, s.nextPosition, none⟩⟩
          nextPosition := s.nextPosition + 1
          counters := { s.counters with scrubPasses := advanced s.counters.scrubPasses true }
          suspects := ageSuspects s.suspects
          events := s.events.offer s.cfg.eventMask { kind := .scrubPass, origin := .scrub } }))

/-- R151, R152, R153, R154, R155: the end of the scrub read. A line result is handed on with a repair offer before the
cursor advances and, at the last line, the pass ends. -/
def Obligations.ScrubReadEnds : Prop :=
  ∀ (s : State) (n : SlotNumber) (line : Nat) (l : Location) (count h position : Nat),
    OutOfReset s → s.memory.slots[n] = .busy .lineRead line l .scrub count →
    s.scrub.read = some ⟨h, position, some (l, n)⟩ →
    let last := decide (s.visibleLines ≤ s.scrub.cursor + 1)
    let pass : List Event := if last then [{ kind := .scrubPass, origin := .scrub }] else []
    (∀ stored, s.service ≠ .aborting →
      let r := classifyLine (completedLine s.draws stored)
      ∃ (u : State) (middle : List Event), exec (.completion n (.done stored)) s = .next u ∧
        u.memory = s.slotFreed n ∧ SameButPhases u.tt s.tt ∧
        u.scrub = ⟨if s.service = .running then .waiting else .off, if last then 0 else s.scrub.cursor + 1,
          s.scrub.countdown, none⟩ ∧
        u.events = ((s.events.offers s.cfg.eventMask (readEvents .scrub none l r [])).offers s.cfg.eventMask
          middle).offers s.cfg.eventMask pass ∧
        (∀ x ∈ middle, x.kind = .repairDropped ∨ x.kind = .spareQueueFull) ∧
        u.counters = { s.counters with
          correctedReads := advanced s.counters.correctedReads (correctedChunks r ≠ [])
          uncorrectableReads := advanced s.counters.uncorrectableReads (uncorrectableChunks r ≠ [])
          repairsDropped := u.counters.repairsDropped
          scrubPasses := advanced s.counters.scrubPasses last } ∧
        (let reported : State := { s with
            memory := u.memory, out := .none
            counters := { s.counters with
              correctedReads := u.counters.correctedReads, uncorrectableReads := u.counters.uncorrectableReads }
            events := s.events.offers s.cfg.eventMask (readEvents .scrub none l r []) }
          let handed := reported.handOn ⟨.scrub, none, h, l, position⟩ r true
          u = { handed with
            tt := u.tt, engine := u.engine, draws := u.draws, scrub := u.scrub
            suspects := if last then ageSuspects handed.suspects else handed.suspects
            counters := { handed.counters with scrubPasses := u.counters.scrubPasses }
            events := handed.events.offers s.cfg.eventMask pass }) ∧
        QuiesceEnds s.engine u ∧
        u = { s with memory := u.memory, tt := u.tt, scrub := u.scrub, events := u.events, counters := u.counters,
                     repairs := u.repairs, nextPosition := u.nextPosition, suspects := u.suspects,
                     sparing := u.sparing, engine := u.engine, draws := u.draws, out := .none }) ∧
    (s.service ≠ .aborting →
      ∃ u, exec (.completion n .failed) s = .next u ∧ SameButPhases u.tt s.tt ∧
        QuiesceEnds s.engine u ∧
        u = { s with
          memory := s.slotFreed n, tt := u.tt, engine := u.engine, out := .none
          scrub := ⟨if s.service = .running then .waiting else .off, if last then 0 else s.scrub.cursor + 1,
            s.scrub.countdown, none⟩
          suspects := if last then ageSuspects s.suspects else s.suspects
          counters := { s.counters with scrubPasses := advanced s.counters.scrubPasses last }
          events := (s.events.offer s.cfg.eventMask
            { kind := .downstreamFailed, origin := .memoryPort, location := some l,
              detail := some (.slot n) }).offers s.cfg.eventMask pass }) ∧
    ∀ status, s.service = .aborting →
      ∃ u, exec (.completion n status) s = .next u ∧ SameButPhases u.tt s.tt ∧
        QuiesceEnds s.engine u ∧
        u = { s with
          memory := s.slotFreed n, tt := u.tt, engine := u.engine, out := .none, draws := u.draws
          scrub := ⟨.off, s.scrub.cursor, s.scrub.countdown, none⟩
          events := match status with
            | .done _ => s.events
            | .failed => s.events.offer s.cfg.eventMask
                { kind := .downstreamFailed, origin := .memoryPort, location := some l,
                  detail := some (.slot n) } }

/-! ## Chapter 9: service states -/

/-- R160, R198: START. In HALTED it starts the scrub and the held request of a port is tested as a presented request
of a running bridge; a take follows when a request is queued. Elsewhere it is refused. With requests held at both
ports the order is free (log 3). -/
def Obligations.StartRunsTheBridge : Prop :=
  (∀ s : State, TakesCommands s → s.service ≠ .halted →
    exec .start s = .next ((s.framed 3).result 0x20 .refusedState [])) ∧
  ∀ s : State, TakesCommands s → s.service = .halted →
    let running : State := { s with
      service := .running
      scrub := { s.scrub with
        countdown := s.cfg.scrubInterval
        state := if s.cfg.scrubInterval = 0 then .off else .waiting } }
    (NoneHeld s → s.sparing = [] → exec .start s = .next ((running.framed 3).result 0x20 .ok [])) ∧
    (NoneHeld s → ∀ u, exec .take running = .next u →
      exec .start s = .next ((u.framed 3).result 0x20 .ok [])) ∧
    (∀ r, s.ports = ⟨some r, none⟩ → r.port = .u0 → ∀ u v,
      exec (.presentedRequest r) { running with ports := ⟨none, none⟩ } = .next u → exec .take u = .next v →
      exec .start s =
        .next ({ v with out := { u.out with miso := List.replicate 3 0x00 } }.result 0x20 .ok [])) ∧
    (∀ r, s.ports = ⟨none, some r⟩ → r.port = .u1 → ∀ u v,
      exec (.presentedRequest r) { running with ports := ⟨none, none⟩ } = .next u → exec .take u = .next v →
      exec .start s =
        .next ({ v with out := { u.out with miso := List.replicate 3 0x00 } }.result 0x20 .ok [])) ∧
    ∀ r₀ r₁, s.ports = ⟨some r₀, some r₁⟩ → r₀.port = .u0 → r₁.port = .u1 →
      ∃ first second, ((first = r₀ ∧ second = r₁) ∨ (first = r₁ ∧ second = r₀)) ∧
        ∀ u v w,
          exec (.presentedRequest first) { running with ports := ⟨none, none⟩, draws := s.draws + 1 } = .next u →
          exec (.presentedRequest second) u = .next v → exec .take v = .next w →
          exec .start s = .next ({ w with
            out := ⟨u.out.u0 ++ v.out.u0, u.out.u1 ++ v.out.u1, [], List.replicate 3 0x00⟩ }.result 0x20 .ok [])

/-- R161, R162, R154, R198: STOP in RUNNING drains, or completes at once when the four conditions hold; elsewhere it
is refused. -/
def Obligations.StopDrainsTheBridge : Prop :=
  ∀ s : State, TakesCommands s →
    (s.service ≠ .running → exec .stop s = .next ((s.framed 3).result 0x21 .refusedState [])) ∧
    (s.service = .running → HeldStays s →
      let scrub : Scrub := { s.scrub with state := if s.scrub.state = .waiting then .off else s.scrub.state }
      ((s.tt = [] ∧ s.repairs = ⟨[], []⟩ ∧ s.engine = .idle ∧ s.scrub.read = none) →
        ∃ d, exec .stop s =
          .next { (s.framed 3).result 0x21 .ok [] with service := .halted, scrub := scrub, draws := d }) ∧
      (¬ (s.tt = [] ∧ s.repairs = ⟨[], []⟩ ∧ s.engine = .idle ∧ s.scrub.read = none) →
        ∃ d, exec .stop s = .next { s.framed 3 with
          service := .stopping, scrub := scrub, draws := d
          link := { s.link with slot := .executing .stop s.link.slot.isReady } }))

/-- R164, R166, R167, R124, R192: RESTART in every service state, unless a RESTART is executing. The ABORTED answers
of one port leave in either order (R19). -/
def Obligations.RestartAbandonsWhatIsNotIssued : Prop :=
  ∀ s : State, TakesFrames s → (∀ b, s.link.slot ≠ .executing .restart b) → HeldStays s →
    let unread := s.link.slot.isReady || s.link.slot.isExecuting
    let aborted (p : Port) : List Response :=
      (s.tt.filter fun e => !e.isIssued && e.port == p).map fun e => ⟨e.tag, .aborted, []⟩
    ∃ u, exec .restart s = .next u ∧
      u.out.u0.Perm (aborted .u0) ∧ u.out.u1.Perm (aborted .u1) ∧ u.out.memory = [] ∧
      u.out.miso = List.replicate 3 0x00 ∧
      SameButPhases u.tt (s.tt.filter fun e => e.isIssued) ∧
      u.repairs = ⟨[], s.repairs.issued⟩ ∧
      u.scrub.state = .off ∧ u.scrub.read = s.scrub.read.filter (fun r => r.granted.isSome) ∧
      u.scrub.countdown = s.scrub.countdown ∧
      (∀ r, s.scrub.read = some r → r.granted = none → u.memory.passOver = 0) ∧
      ((∀ r, s.scrub.read = some r → r.granted ≠ none) → u.memory.passOver = s.memory.passOver) ∧
      u.memory.slots = s.memory.slots ∧
      ((s.engine = .idle ∨ s.engine.issued? ≠ none) → u.engine = s.engine ∧ u.map = s.map ∧ u.spares = s.spares) ∧
      (∀ m, s.engine.migration? = some m → s.engine.issued? = none →
        (m.old = .home → m.reverted = .free) ∧ (∀ a, m.old = .spare a → m.reverted = .active m.home a) ∧
        u.engine = .idle ∧ u.map = s.map.set m.entry.1 m.reverted m.entry.2 ∧
        u.spares = s.spares.set m.new .available) ∧
      (((u.tt = [] ∧ (∀ n : SlotNumber, s.memory.slots[n].isBusy = false) ∧ u.engine = .idle) ∧
          u.service = .halted ∧ u.lastReset = .restart ∧ u.sparing = [] ∧ u.suspects = [] ∧ u.scrub.cursor = 0 ∧
          u.events = s.events.offer s.cfg.eventMask { kind := .restarted, origin := .service } ∧
          u.link = ⟨.ready ⟨0x22, .ok, [], unread⟩, s.link.overrun⟩) ∨
        (¬ (u.tt = [] ∧ (∀ n : SlotNumber, s.memory.slots[n].isBusy = false) ∧ u.engine = .idle) ∧
          u.service = .aborting ∧ u.lastReset = s.lastReset ∧ u.sparing = s.sparing ∧ u.suspects = s.suspects ∧
          u.scrub.cursor = s.scrub.cursor ∧ u.events = s.events ∧
          u.link = ⟨.executing .restart unread, s.link.overrun⟩)) ∧
      u.cfg = s.cfg ∧ u.counters = s.counters ∧ u.microseconds = s.microseconds ∧ u.ports = s.ports ∧
      u.nextPosition = s.nextPosition ∧ u.memory.mark = s.memory.mark ∧ u.resetPin = s.resetPin

/-- R162, R166: the completion of a drain. Not due, either row has no effect (log 4). That the slot is EXECUTING the
drain's command is the invariant DrainLaw of ServiceStatesKeepTheirLaws. -/
def Obligations.DrainsComplete : Prop :=
  ∀ s : State, OutOfReset s →
    (¬ (s.service = .stopping ∧ s.tt = [] ∧ s.repairs = ⟨[], []⟩ ∧ s.engine = .idle ∧ s.scrub.read = none) →
      exec .stopDrainComplete s = .next s.quiet) ∧
    (∀ b, s.service = .stopping → s.tt = [] → s.repairs = ⟨[], []⟩ → s.engine = .idle → s.scrub.read = none →
      HeldStays s → s.link.slot = .executing .stop b →
      ∃ d, exec .stopDrainComplete s = .next { s.quiet with
        service := .halted, draws := d, link := ⟨.ready ⟨0x21, .ok, [], b⟩, s.link.overrun⟩ }) ∧
    (¬ (s.service = .aborting ∧ s.tt = [] ∧ (∀ n : SlotNumber, s.memory.slots[n].isBusy = false) ∧
        s.engine = .idle) →
      exec .restartDrainComplete s = .next s.quiet) ∧
    ∀ b, s.service = .aborting → s.tt = [] → (∀ n : SlotNumber, s.memory.slots[n].isBusy = false) →
      s.engine = .idle → HeldStays s → s.link.slot = .executing .restart b →
      ∃ d, exec .restartDrainComplete s = .next { s.quiet with
        service := .halted, draws := d, lastReset := .restart, sparing := [], suspects := []
        scrub := { s.scrub with cursor := 0 }
        events := s.events.offer s.cfg.eventMask { kind := .restarted, origin := .service }
        link := ⟨.ready ⟨0x22, .ok, [], b⟩, s.link.overrun⟩ }

/-- R62, R165: in ABORTING every end of an entry's operation answers it ABORTED and hands nothing on. -/
def Obligations.AbortingAnswersAborted : Prop :=
  ∀ (s : State) (n : SlotNumber) (kind : OpKind) (line : Nat) (l : Location) (p : Port) (t : Tag) (count : Nat)
    (e : Entry) (status : CompletionStatus),
    OutOfReset s → s.service = .aborting → s.memory.slots[n] = .busy kind line l (.entry p t) count →
    s.entryOf p t = some e →
    ∃ u, exec (.completion n status) s = .next u ∧
      u.out = (s.quiet.respond p ⟨t, .aborted, []⟩).out ∧ SameButPhases u.tt (s.others p t) ∧
      QuiesceEnds s.engine u ∧
      u = { s with
        memory := s.slotFreed n, tt := u.tt, out := u.out, engine := u.engine, draws := u.draws
        events := match status with
          | .done _ => s.events
          | .failed => s.events.offer s.cfg.eventMask
              { kind := .downstreamFailed, origin := .memoryPort, location := some l,
                detail := some (.slot n) } }

/-! ## Chapter 10: events, counters and the alert line -/

/-- R174, R176: a masked event leaves no trace; a passed one takes the sequence number and is stored with the lost
mark, or dropped with the mark set. -/
def Obligations.EventsAreMaskedNumberedAndStored : Prop :=
  ∀ (q : EventQueue) (mask : BitVec 16) (e : Event),
    (mask.getLsbD e.kind.code = false → q.offer mask e = q) ∧
    (mask.getLsbD e.kind.code = true → q.records.length < 16 →
      q.offer mask e = ⟨q.records ++ [⟨q.sequence, e, q.lost⟩], q.sequence + 1, false⟩) ∧
    (mask.getLsbD e.kind.code = true → 16 ≤ q.records.length →
      q.offer mask e = ⟨q.records, q.sequence + 1, true⟩)

/-- R183: ALERT_N. -/
def Obligations.AlertFollowsTheQueue : Prop :=
  ∀ s : State, s.alertAsserted = true ↔ s.events.records ≠ [] ∧ s.cfg.alertEnable = true

/-- R173, R178, R201, R202: the codes of the event kinds and of the origins; TAKE EVENT removes the head record and
returns it in 14 bytes, or EMPTY. -/
def Obligations.TakeEventRemovesTheHead : Prop :=
  (∀ x ∈ ([(.corrected, 0), (.uncorrectable, 1), (.poisonRead, 2), (.range, 3), (.form, 4), (.tagClash, 5),
      (.spared, 6), (.noSpare, 7), (.migrationFailed, 8), (.spareQueueFull, 9), (.repairDropped, 10),
      (.downstreamTimeout, 11), (.lateCompletion, 12), (.downstreamFailed, 13), (.scrubPass, 14),
      (.restarted, 15)] : List (EventKind × Nat)), x.1.code = x.2) ∧
  (∀ x ∈ ([(.u0, 0), (.u1, 1), (.scrub, 2), (.migration, 3), (.memoryPort, 4), (.management, 5),
      (.service, 6)] : List (Origin × Nat)), x.1.code = x.2) ∧
  ∀ s : State, TakesCommands s →
    (s.events.records = [] → exec .takeEvent s = .next ((s.framed 3).result 0x48 .empty [])) ∧
    ∀ r rest, s.events.records = r :: rest →
      exec .takeEvent s =
        .next { (s.framed 3).result 0x48 .ok r.bytes with events := { s.events with records := rest } } ∧
      r.bytes.length = 14 ∧
      r.bytes.take 4 = [r.sequence.extractLsb' 8 8, r.sequence.extractLsb' 0 8,
        BitVec.ofNat 8 r.event.kind.code, BitVec.ofNat 8 r.event.origin.code] ∧
      (∀ presence, r.bytes[4]? = some presence →
        presence.getLsbD 0 = r.event.location.isSome ∧ presence.getLsbD 1 = r.event.chunk.isSome ∧
        presence.getLsbD 2 = r.event.chunkCount.isSome ∧ presence.getLsbD 3 = r.event.tag.isSome ∧
        presence.getLsbD 4 = r.event.detail.isSome ∧ presence.getLsbD 7 = r.lost) ∧
      (r.bytes.drop 5).take 5 = (match r.event.location with
        | none => [0, 0, 0, 0, 0]
        | some (.home h) => 0 :: bytes4 (BitVec.ofNat 32 h)
        | some (.spare n) => 1 :: bytes4 (BitVec.ofNat 32 n)) ∧
      r.bytes.drop 10 =
        [match r.event.chunk with | none => 0 | some c => BitVec.ofNat 8 c.val,
         match r.event.chunkCount with | none => 0 | some n => BitVec.ofNat 8 n,
         match r.event.tag with | none => 0 | some t => BitVec.ofNat 8 t.val,
         match r.event.detail with
          | none => 0
          | some (.spare n) => BitVec.ofNat 8 n
          | some (.stage .read) => 0
          | some (.stage .write) => 1
          | some (.slot n) => BitVec.ofNat 8 n.val
          | some (.reason .threshold) => 0
          | some (.reason .uncorrectable) => 1
          | some (.reason .command) => 2]

/-! ## Chapter 11: the management link -/

/-- R195, R196, R181, R182, R201: the commands that read the bridge whole, and CLEAR COUNTERS. -/
def Obligations.SnapshotsReportTheBridge : Prop :=
  ∀ s : State, TakesCommands s →
    exec .readIdentity s =
      .next ((s.framed 3).result 0x01 .ok [0x5A, 0x23, 0x40, 1, 32, 16, 128, 8, 32, 4, 16, 8]) ∧
    (∃ bytes, exec .readState s = .next ((s.framed 3).result 0x02 .ok bytes) ∧ bytes.length = 24 ∧
      bytes.take 4 =
        [match s.service with | .halted => 0 | .running => 1 | .stopping => 2 | .aborting => 3,
         match s.lastReset with | .cold => 0 | .restart => 1,
         match s.engine with | .idle => 0 | .quiesce _ => 1 | .copyRead _ _ => 2 | .copyWrite _ _ _ => 3,
         if s.engine = .idle then 0 else 1] ∧
      (∀ m, s.engine.migration? = some m → (bytes.drop 4).take 4 = bytes4 (BitVec.ofNat 32 m.home)) ∧
      (s.engine = .idle → (bytes.drop 4).take 4 = [0, 0, 0, 0]) ∧
      (bytes.drop 8).take 12 = [
        BitVec.ofNat 8 (entryNumbers.countP fun i => s.map[i] != .free),
        BitVec.ofNat 8 (s.spares.countP (· == .available)), BitVec.ofNat 8 (s.spares.countP (· == .allocated)),
        BitVec.ofNat 8 (s.spares.countP (· == .retired)),
        BitVec.ofNat 8 s.sparing.length, BitVec.ofNat 8 s.suspects.length,
        BitVec.ofNat 8 s.repairs.queue.length, BitVec.ofNat 8 s.events.records.length,
        BitVec.ofNat 8 (s.tt.countP fun e => e.port == .u0), BitVec.ofNat 8 (s.tt.countP fun e => e.port == .u1),
        BitVec.ofNat 8 (slotNumbers.countP fun n => s.memory.slots[n].isBusy),
        BitVec.ofNat 8 (slotNumbers.countP fun n => s.memory.slots[n].isOrphaned)] ∧
      bytes.drop 20 = bytes4 (BitVec.ofNat 32 s.scrub.cursor)) ∧
    exec .readCounters s =
      .next ((s.framed 3).result 0x50 .ok
        (bytes4 s.counters.correctedReads ++ bytes4 s.counters.uncorrectableReads ++
          bytes4 s.counters.poisonReads ++ bytes4 s.counters.repairsWritten ++ bytes4 s.counters.repairsDropped ++
          bytes4 s.counters.migrationsDone ++ bytes4 s.counters.migrationsFailed ++
          bytes4 s.counters.scrubPasses ++ bytes4 s.counters.downstreamTimeouts)) ∧
    exec .clearCounters s =
      .next { (s.framed 3).result 0x51 .ok [] with counters := ⟨0, 0, 0, 0, 0, 0, 0, 0, 0⟩ } ∧
    (∀ (item : Byte) (v : Nat),
      ((item.toNat = 1 ∧ v = s.cfg.installedLog2) ∨ (item.toNat = 2 ∧ v = s.cfg.spareLines) ∨
        (item.toNat = 3 ∧ v = s.cfg.spareThreshold) ∨ (item.toNat = 4 ∧ v = s.cfg.tickShift) ∨
        (item.toNat = 5 ∧ v = s.cfg.scrubInterval) ∨ (item.toNat = 6 ∧ v = s.cfg.downstreamTimeout) ∨
        (item.toNat = 7 ∧ v = if s.cfg.haltedPolicy = .stall then 0 else 1) ∨
        (item.toNat = 8 ∧ v = if s.cfg.repairEnable then 1 else 0) ∨
        (item.toNat = 9 ∧ v = s.cfg.eventMask.toNat) ∨
        (item.toNat = 10 ∧ v = if s.cfg.alertEnable then 1 else 0)) →
      exec (.readConfig item) s = .next ((s.framed 4).result 0x11 .ok (bytes4 (BitVec.ofNat 32 v)))) ∧
    ∀ item : Byte, (item.toNat = 0 ∨ 10 < item.toNat) →
      exec (.readConfig item) s = .next ((s.framed 4).result 0x11 .badArgument [])

/-- R99, R83, R106, R199, R200, R202: the commands that read one entry, spare, record or request. -/
def Obligations.TablesAreReadByNumber : Prop :=
  ∀ s : State, TakesCommands s →
    (∀ k : Byte,
      (∀ i : EntryNumber, i.val = k.toNat →
        exec (.readMapEntry k) s = .next ((s.framed 4).result 0x38 .ok
          (match s.map[i] with
            | .free => [0, 0, 0, 0, 0, 0xFF, 0xFF]
            | .active h n => 1 :: bytes4 (BitVec.ofNat 32 h) ++ [BitVec.ofNat 8 n, 0xFF]
            | .moving h .home n => 2 :: bytes4 (BitVec.ofNat 32 h) ++ [0xFF, BitVec.ofNat 8 n]
            | .moving h (.spare a) n =>
              2 :: bytes4 (BitVec.ofNat 32 h) ++ [BitVec.ofNat 8 a, BitVec.ofNat 8 n]))) ∧
      (128 ≤ k.toNat → exec (.readMapEntry k) s = .next ((s.framed 4).result 0x38 .badArgument [])) ∧
      (s.cfg.spareLines ≤ k.toNat → exec (.readSpare k) s = .next ((s.framed 4).result 0x3A .badArgument [])) ∧
      (∀ v, k.toNat < s.cfg.spareLines → s.spares[k.toNat]? = some v →
        exec (.readSpare k) s = .next ((s.framed 4).result 0x3A .ok
          [match v with | .available => 0 | .allocated => 1 | .retired => 2])) ∧
      (32 ≤ k.toNat → exec (.readSuspect k) s = .next ((s.framed 4).result 0x40 .badArgument [])) ∧
      (k.toNat < 32 → s.suspects.length ≤ k.toNat →
        exec (.readSuspect k) s = .next ((s.framed 4).result 0x40 .empty [])) ∧
      (∀ r, k.toNat < 32 → s.suspects[k.toNat]? = some r →
        exec (.readSuspect k) s = .next ((s.framed 4).result 0x40 .ok
          ((match r.location with
            | .home h => 0 :: bytes4 (BitVec.ofNat 32 h)
            | .spare n => 1 :: bytes4 (BitVec.ofNat 32 n)) ++
            [BitVec.ofNat 8 r.count, if r.touched then 1 else 0]))) ∧
      (8 ≤ k.toNat → exec (.readSparingQueue k) s = .next ((s.framed 4).result 0x41 .badArgument [])) ∧
      (k.toNat < 8 → s.sparing.length ≤ k.toNat →
        exec (.readSparingQueue k) s = .next ((s.framed 4).result 0x41 .empty [])) ∧
      (∀ r, k.toNat < 8 → s.sparing[k.toNat]? = some r →
        exec (.readSparingQueue k) s = .next ((s.framed 4).result 0x41 .ok
          (bytes4 (BitVec.ofNat 32 r.home) ++
            ([match r.reason with | .threshold => 0 | .uncorrectable => 1 | .command => 2,
             match r.origin with
              | .u0 => 0
              | .u1 => 1
              | .scrub => 2
              | .migration => 3
              | .memoryPort => 4
              | .management => 5
              | .service => 6] : List Byte))))) ∧
    ∀ home : BitVec 32,
      (s.visibleLines ≤ home.toNat → exec (.findMap home) s = .next ((s.framed 7).result 0x39 .badArgument [])) ∧
      (home.toNat < s.visibleLines →
        ((∀ j : EntryNumber, s.map[j].home? ≠ some home.toNat) →
          exec (.findMap home) s = .next ((s.framed 7).result 0x39 .notFound [])) ∧
        ∀ i : EntryNumber, HomesLaw s → s.map[i].home? = some home.toNat →
          exec (.findMap home) s = .next ((s.framed 7).result 0x39 .ok [BitVec.ofNat 8 i.val]))

/-- R196, R98: CONFIGURE outside HALTED, out of range, and of a line count in use; nothing is changed. R196 test 2 for an
item outside 1 to 10: no row of the table is that command, so it reaches the model as the bytes of its frame, which the
frame rows and `takeFrame` settle alike (log 9). -/
def Obligations.ConfigureIsRefused : Prop :=
  (∀ (s : State) (item : Byte) (v : BitVec 32), TakesCommands s → (item.toNat = 0 ∨ 10 < item.toNat) →
    let frame := (LinkCommand.configure item v).frame
    let refused := (s.framed 8).result 0x10 (if s.service = .halted then .badArgument else .refusedState) []
    takeFrame frame s = refused ∧
    ∀ i ∈ ([.badCheck frame, .unknown frame, .overrun frame, .badArgumentLength frame] : List Instr),
      exec i s = .next refused) ∧
  ∀ (s : State) (v : BitVec 32), TakesCommands s →
    (s.service ≠ .halted →
      ∀ i ∈ ([.configureInstalledLines v, .configureSpareLines v, .configureSpareThreshold v,
          .configureTickShift v, .configureScrubInterval v, .configureDownstreamTimeout v,
          .configureHaltedPolicy v, .configureRepairEnable v, .configureEventMask v,
          .configureAlertEnable v] : List Instr),
        exec i s = .next ((s.framed 8).result 0x10 .refusedState [])) ∧
    (s.service = .halted →
      (∀ x ∈ ([(.configureInstalledLines v, 16, 30), (.configureSpareLines v, 0, 128),
          (.configureSpareThreshold v, 1, 15), (.configureTickShift v, 0, 7),
          (.configureScrubInterval v, 0, 65535), (.configureDownstreamTimeout v, 0, 255),
          (.configureHaltedPolicy v, 0, 1), (.configureRepairEnable v, 0, 1),
          (.configureEventMask v, 0, 65535), (.configureAlertEnable v, 0, 1)] : List (Instr × Nat × Nat)),
        ¬ (x.2.1 ≤ v.toNat ∧ v.toNat ≤ x.2.2) →
          exec x.1 s = .next ((s.framed 8).result 0x10 .badArgument [])) ∧
      (((∃ j : EntryNumber, s.map[j] ≠ .free) ∨ ∃ x ∈ s.spares, x ≠ .available) →
        (16 ≤ v.toNat → v.toNat ≤ 30 →
          exec (.configureInstalledLines v) s = .next ((s.framed 8).result 0x10 .inUse [])) ∧
        (v.toNat ≤ 128 →
          exec (.configureSpareLines v) s = .next ((s.framed 8).result 0x10 .inUse []))))

/-- R196, R197, R98, R82, R146, R23: an accepted CONFIGURE sets its item, with its effect. -/
def Obligations.ConfigureSetsTheItem : Prop :=
  ∀ (s : State) (v : BitVec 32), TakesCommands s → s.service = .halted →
    ((∀ j : EntryNumber, s.map[j] = .free) → (∀ x ∈ s.spares, x = .available) →
      (16 ≤ v.toNat → v.toNat ≤ 30 →
        exec (.configureInstalledLines v) s = .next { (s.framed 8).result 0x10 .ok [] with
          cfg := { s.cfg with installedLog2 := v.toNat }
          spares := List.replicate s.cfg.spareLines .available
          sparing := [], suspects := [], scrub := { s.scrub with cursor := 0 } }) ∧
      (v.toNat ≤ 128 →
        exec (.configureSpareLines v) s = .next { (s.framed 8).result 0x10 .ok [] with
          cfg := { s.cfg with spareLines := v.toNat }
          spares := List.replicate v.toNat .available
          sparing := [], suspects := [], scrub := { s.scrub with cursor := 0 } })) ∧
    (1 ≤ v.toNat → v.toNat ≤ 15 →
      exec (.configureSpareThreshold v) s = .next { (s.framed 8).result 0x10 .ok [] with
        cfg := { s.cfg with spareThreshold := v.toNat }, suspects := [] }) ∧
    (v.toNat ≤ 7 →
      exec (.configureTickShift v) s = .next { (s.framed 8).result 0x10 .ok [] with
        cfg := { s.cfg with tickShift := v.toNat }, microseconds := 0 }) ∧
    (v.toNat ≤ 65535 →
      exec (.configureScrubInterval v) s = .next { (s.framed 8).result 0x10 .ok [] with
        cfg := { s.cfg with scrubInterval := v.toNat } }) ∧
    (v.toNat ≤ 255 →
      exec (.configureDownstreamTimeout v) s = .next { (s.framed 8).result 0x10 .ok [] with
        cfg := { s.cfg with downstreamTimeout := v.toNat } }) ∧
    (HeldLaw s → s.tt = [] →
      (v.toNat = 0 → ∃ d, exec (.configureHaltedPolicy v) s = .next { (s.framed 8).result 0x10 .ok [] with
        cfg := { s.cfg with haltedPolicy := .stall }, draws := d }) ∧
      (v.toNat = 1 → ∃ d, exec (.configureHaltedPolicy v) s = .next { (s.framed 8).result 0x10 .ok [] with
        cfg := { s.cfg with haltedPolicy := .refuse }
        ports := ⟨none, none⟩
        draws := d
        out := ⟨s.ports.heldU0.toList.map fun r => ⟨r.tag, .offline, []⟩,
          s.ports.heldU1.toList.map fun r => ⟨r.tag, .offline, []⟩, [], List.replicate 8 0x00⟩ })) ∧
    (v.toNat ≤ 1 →
      exec (.configureRepairEnable v) s = .next { (s.framed 8).result 0x10 .ok [] with
        cfg := { s.cfg with repairEnable := decide (v.toNat = 1) } }) ∧
    (v.toNat ≤ 0xFFFF →
      exec (.configureEventMask v) s = .next { (s.framed 8).result 0x10 .ok [] with
        cfg := { s.cfg with eventMask := BitVec.ofNat 16 v.toNat } }) ∧
    (v.toNat ≤ 1 →
      exec (.configureAlertEnable v) s = .next { (s.framed 8).result 0x10 .ok [] with
        cfg := { s.cfg with alertEnable := decide (v.toNat = 1) } })

/-- R187, R191: the CRC over a whole well-formed COMMAND frame, and over a reply, is 0; the example frames of 11.1.1
have the check bytes shown there. -/
def Obligations.CrcOverAWholeFrameIsZero : Prop :=
  (∀ c : LinkCommand, crc8 c.frame = 0) ∧
  (∀ (code n : Byte) (rest : List Byte), wellFormedRest code n rest = true → crc8 (code :: n :: rest) = 0) ∧
  (∀ l : Link, crc8 l.reply = 0) ∧
  LinkCommand.readIdentity.frame = [0x01, 0x00, 0x15] ∧ LinkCommand.start.frame = [0x20, 0x00, 0xAE] ∧
  LinkCommand.stop.frame = [0x21, 0x00, 0xBB] ∧ LinkCommand.restart.frame = [0x22, 0x00, 0x84]

/-- R186, R194, R202: reading the frame of a command gives the command back, with every argument at every value. -/
def Obligations.FrameOfACommandReadsBack : Prop :=
  (∀ c : LinkCommand, frameKind c.frame = .command c) ∧
  ∀ (code : Byte) (args : List Byte) (c : LinkCommand),
    frameKind (code :: BitVec.ofNat 8 args.length :: args ++ [crc8 (code :: BitVec.ofNat 8 args.length :: args)]) =
      .command c → args.length ≤ 12 → c.code = code ∧ c.args = args

/-- R189 test 6: a named command is the taking of its frame. -/
def Obligations.NamedCommandIsItsFrame : Prop :=
  ∀ s : State,
    (∀ x ∈ ([(.readIdentity, .readIdentity), (.readState, .readState), (.start, .start), (.stop, .stop),
        (.restart, .restart), (.takeEvent, .takeEvent), (.readCounters, .readCounters),
        (.clearCounters, .clearCounters)] : List (Instr × LinkCommand)),
      exec x.1 s = .next (takeFrame x.2.frame s.quiet)) ∧
    (∀ v : BitVec 32,
      ∀ x ∈ ([(.configureInstalledLines v, .configure 1 v), (.configureSpareLines v, .configure 2 v),
          (.configureSpareThreshold v, .configure 3 v), (.configureTickShift v, .configure 4 v),
          (.configureScrubInterval v, .configure 5 v), (.configureDownstreamTimeout v, .configure 6 v),
          (.configureHaltedPolicy v, .configure 7 v), (.configureRepairEnable v, .configure 8 v),
          (.configureEventMask v, .configure 9 v), (.configureAlertEnable v, .configure 10 v),
          (.requestSpare v, .requestSpare v), (.findMap v, .findMap v)] : List (Instr × LinkCommand)),
        exec x.1 s = .next (takeFrame x.2.frame s.quiet)) ∧
    (∀ k : Byte,
      ∀ x ∈ ([(.readConfig k, .readConfig k), (.loadRetired k, .loadRetired k), (.readMapEntry k, .readMapEntry k),
          (.readSpare k, .readSpare k), (.readSuspect k, .readSuspect k),
          (.readSparingQueue k, .readSparingQueue k)] : List (Instr × LinkCommand)),
        exec x.1 s = .next (takeFrame x.2.frame s.quiet)) ∧
    ∀ (v : BitVec 32) (k : Byte), exec (.loadMap v k) s = .next (takeFrame (LinkCommand.loadMap v k).frame s.quiet)

/-- R189 tests 3 to 5, R186, R194: frames that execute nothing, in EMPTY or RESULT_READY, and which frames these are.
R185: while RESET_N is asserted no frame is taken, nor the one that began before its release; that MISO carries 0x00
through such a frame is the model's choice (log 10). -/
def Obligations.FramesThatExecuteNothing : Prop :=
  (∀ (s : State) (frame : List Byte), TakesCommands s →
    (∀ code, frameKind frame = .illFormed code →
      exec (.badCheck frame) s = .next ((s.framed frame.length).result code .badCheck [])) ∧
    (∀ code, frameKind frame = .unknownCode code →
      exec (.unknown frame) s = .next ((s.framed frame.length).result code .unknown [])) ∧
    (∀ code, frameKind frame = .wrongLength code →
      exec (.badArgumentLength frame) s = .next ((s.framed frame.length).result code .badArgument [])) ∧
    (∀ code n rest, frame = code :: n :: rest → code ≠ 0x7E →
      (12 < n.toNat ∨ frame.length ≠ n.toNat + 3 ∨ frame.getLast? ≠ some (crc8 frame.dropLast)) →
      frameKind frame = .illFormed code)) ∧
  (∀ (code n : Byte) (args : List Byte), args.length = n.toNat → n.toNat ≤ 12 →
    let frame := code :: n :: (args ++ [crc8 (code :: n :: args)])
    let table : List (Byte × Nat) := [(0x01, 0), (0x02, 0), (0x10, 5), (0x11, 1), (0x20, 0), (0x21, 0), (0x22, 0),
      (0x30, 5), (0x31, 1), (0x32, 4), (0x38, 1), (0x39, 4), (0x3A, 1), (0x40, 1), (0x41, 1), (0x48, 0), (0x50, 0),
      (0x51, 0)]
    (code ≠ 0x7E → (∀ x ∈ table, x.1 ≠ code) → frameKind frame = .unknownCode code) ∧
    (∀ x ∈ table, x.1 = code → x.2 ≠ args.length → frameKind frame = .wrongLength code) ∧
    ∀ x ∈ table, x.1 = code → x.2 = args.length →
      ∃ c : LinkCommand, frameKind frame = .command c ∧ c.code = code ∧ c.args = args) ∧
  ∀ (s : State) (frame : List Byte) (length : Nat),
    (s.resetPin.asserted = true →
      takeFrame frame s = s.framed frame.length ∧
      (∀ i ∈ ([.badCheck frame, .unknown frame, .overrun frame, .badArgumentLength frame] : List Instr),
        exec i s = .next (s.framed frame.length)) ∧
      exec (.resultFrame length) s = .next (s.framed length)) ∧
    (OutOfReset s → s.resetPin.openFrame = true →
      takeFrame frame s = { s.framed frame.length with resetPin := ⟨false, false⟩ } ∧
      (∀ i ∈ ([.badCheck frame, .unknown frame, .overrun frame, .badArgumentLength frame] : List Instr),
        exec i s = .next { s.framed frame.length with resetPin := ⟨false, false⟩ }) ∧
      exec (.resultFrame length) s = .next { s.framed length with resetPin := ⟨false, false⟩ })

/-- R189 tests 1 and 2, R190, R192: while the slot is EXECUTING a frame other than RESTART sets the overrun mark and
does nothing else; a RESTART is absorbed by a RESTART. -/
def Obligations.ExecutingSlotIgnoresFrames : Prop :=
  ∀ (s : State) (d : DrainCommand) (b : Bool), TakesFrames s → s.link.slot = .executing d b →
    (∀ frame, (∀ n, frameKind frame ≠ .result n) → frameKind frame ≠ .silent →
      frameKind frame ≠ .command .restart →
      exec (.overrun frame) s = .next { s.framed frame.length with link := ⟨.executing d b, true⟩ }) ∧
    (∀ c : LinkCommand, c ≠ .restart →
      takeFrame c.frame s.quiet = { s.framed c.frame.length with link := ⟨.executing d b, true⟩ }) ∧
    (d = .restart → exec .restart s = .next (s.framed 3))

/-- R191, R202: the statuses; the reply to a RESULT frame by the slot state, and delivery when the frame reaches the reply's CRC byte. A
frame with no complete byte has no effect (R185). -/
def Obligations.ResultFrameReplies : Prop :=
  (∀ s : State, TakesFrames s → exec (.resultFrame 0) s = .next s.quiet) ∧
  (∀ (s : State) (n : Nat), TakesFrames s → 1 ≤ n →
    ∃ u, exec (.resultFrame n) s = .next u ∧
      u.out.u0 = [] ∧ u.out.u1 = [] ∧ u.out.memory = [] ∧
      u.out.miso = (0x00 :: (s.link.reply ++ List.replicate n 0x00)).take n ∧
      u = { s with out := u.out, link := u.link } ∧
      (∀ r, s.link.slot = .ready r →
        u.link = if 7 + r.bytes.length ≤ n then ⟨.empty, false⟩ else s.link) ∧
      ((∀ r, s.link.slot ≠ .ready r) → u.link = s.link)) ∧
  (∀ x ∈ ([(.ok, 0x00), (.refusedState, 0x01), (.badArgument, 0x02), (.inUse, 0x03), (.queued, 0x04),
      (.already, 0x05), (.full, 0x06), (.empty, 0x07), (.notFound, 0x08), (.badCheck, 0x09), (.unknown, 0x0A),
      (.superseded, 0x0B)] : List (Status × Byte)), x.1.code = x.2) ∧
  ∀ l : Link,
    let mark : Byte := if l.overrun then 0x01 else 0x00
    l.reply.dropLast = (match l.slot with
      | .empty => [0, 0x00, 0x00, mark, 0]
      | .executing .stop _ => [1, 0x21, 0x00, mark, 0]
      | .executing .restart _ => [1, 0x22, 0x00, mark, 0]
      | .ready r => [2, r.code, r.status.code, mark + (if r.prevUnread then 0x02 else 0x00),
          BitVec.ofNat 8 r.bytes.length] ++ r.bytes) ∧
    l.reply.getLast? = some (crc8 l.reply.dropLast)

/-! ## Invariants: each is kept by every step, from every state that has it -/

/-- R64, R75, R102, R135, R176, R177, R196, R23: the queues and lists keep their capacities, one record for each line
or location, and the numbering of events; the configuration stays in its ranges; a held request is its port's. -/
def Obligations.CollectionsKeepTheirLaws : Prop :=
  ∀ s s' : State,
    CapacityLaw s ∧ RepairLaw s ∧ SuspectLaw s ∧ SequenceLaw s ∧ ConfigLaw s ∧ HeldLaw s → step s = .next s' →
    CapacityLaw s' ∧ RepairLaw s' ∧ SuspectLaw s' ∧ SequenceLaw s' ∧ ConfigLaw s' ∧ HeldLaw s'

/-- R131: no two BUSY operations are addressed to one physical line unless both are line reads. -/
def Obligations.BusyOperationsStayApart : Prop :=
  ∀ s s' : State, ExclusionLaw s → step s = .next s' → ExclusionLaw s'

/-- R85, R87, R88, R102, R107: the map, the pool, the engine and the Sparing Queue stay in agreement. -/
def Obligations.MapPoolAndEngineAgree : Prop :=
  ∀ s s' : State, MapLaw s ∧ SparingLaw s → step s = .next s' → MapLaw s' ∧ SparingLaw s'

/-- R20, R129, R147, R159, R164: tags, slots, the scrub and the service state stay in agreement; in HALTED nothing is
outstanding. R158, R188: the command slot is EXECUTING a STOP exactly in STOPPING and a RESTART exactly in ABORTING. Each
of the two is kept by itself. -/
def Obligations.ServiceStatesKeepTheirLaws : Prop :=
  (∀ s s' : State, ServiceLaw s → step s = .next s' → ServiceLaw s') ∧
  ∀ s s' : State, DrainLaw s → step s = .next s' → DrainLaw s'

/-- R28, R30, R34, R36: entries stand in acceptance order, and after every step each entry's phase is the one the
hazard rule gives it. The premise ServiceLaw is the invariant of ServiceStatesKeepTheirLaws: it rules out a scrub read that
stands in WAITING. -/
def Obligations.PhasesFollowTheHazardRuleAlways : Prop :=
  ∀ s s' : State, ServiceLaw s ∧ OrderLaw s ∧ PhaseLaw s → step s = .next s' → OrderLaw s' ∧ PhaseLaw s'

end
end

