-- ==== Sys2Proof/Laws/Codec.lean ====
section
/-! SUPPORT. The check code as a linear code: the fresh check of a sum, the syndrome of one inverted bit, and the bit
that a one-bit syndrome names. -/

namespace Sys2Proof.Machine

/-- The 72 syndromes of one bit error, data bits first. -/
abbrev errorColumns : List Byte := Config.code.columns ++ Config.checkColumns

theorem errorColumns_length : errorColumns.length = 72 := by
  simp [errorColumns, Config.code.lawful.count, Config.checkColumns]

theorem xor_left_comm (a b c : Byte) : a ^^^ (b ^^^ c) = b ^^^ (a ^^^ c) := by
  rw [← BitVec.xor_assoc, BitVec.xor_comm a b, BitVec.xor_assoc]

theorem columnSum_xor (cs : List Byte) (i : Nat) (d e : ChunkData) :
    columnSum cs i (d ^^^ e) = columnSum cs i d ^^^ columnSum cs i e := by
  induction cs generalizing i with
  | nil => simp [columnSum]
  | cons c cs ih =>
    simp only [columnSum, ih, BitVec.getLsbD_xor]
    cases d.getLsbD i <;> cases e.getLsbD i <;> simp [BitVec.xor_assoc, xor_left_comm]

theorem columnSum_twoPow_before (cs : List Byte) (i k : Nat) (h : i < k) :
    columnSum cs k (BitVec.twoPow 64 i) = 0 := by
  induction cs generalizing k with
  | nil => rfl
  | cons c cs ih => simp [columnSum, BitVec.getLsbD_twoPow, ih (k + 1) (by omega), Nat.ne_of_lt h]

theorem columnSum_twoPow (cs : List Byte) (i k : Nat) (hi : k + i < 64) (h : i < cs.length) :
    columnSum cs k (BitVec.twoPow 64 (k + i)) = cs[i] := by
  induction cs generalizing i k with
  | nil => simp at h
  | cons c cs ih =>
    cases i with
    | zero =>
      have h64 : k < 64 := by omega
      simp [columnSum, columnSum_twoPow_before cs k (k + 1) (by omega), h64]
    | succ i =>
      have := ih i (k + 1) (by omega) (by simpa using h)
      simp only [show k + 1 + i = k + (i + 1) by omega] at this
      simp [columnSum, BitVec.getLsbD_twoPow, this]

/-- R8, R9: inverting data bit `i` changes the fresh check by that bit's column. -/
theorem freshCheck_flip (d : ChunkData) (i : Nat) (h : i < 64) :
    freshCheck (d ^^^ BitVec.twoPow 64 i) =
      freshCheck d ^^^ Config.code.columns[i]'(by rw [Config.code.lawful.count]; exact h) := by
  have := columnSum_twoPow Config.code.columns i 0 (by omega) (by rw [Config.code.lawful.count]; exact h)
  simp only [Nat.zero_add] at this
  simp [freshCheck, columnSum_xor, this, BitVec.xor_assoc]

/-- R9: inverting one of the 72 bits changes the syndrome by that bit's column. -/
theorem syndrome_flip (c : StoredChunk) (i : Fin 72) :
    syndrome (flipBit c i) = syndrome c ^^^ errorColumns[i.val]'(by rw [errorColumns_length]; exact i.isLt) := by
  have hl : Config.code.columns.length = 64 := Config.code.lawful.count
  by_cases h : i.val < 64
  · have e : errorColumns[i.val]'(by rw [errorColumns_length]; exact i.isLt) =
        Config.code.columns[i.val]'(by rw [hl]; exact h) := List.getElem_append_left _
    rw [e]
    simp [flipBit, h, syndrome, freshCheck_flip _ _ h, BitVec.xor_assoc, BitVec.xor_comm]
  · have h8 : i.val - 64 < 8 := by omega
    have hc : ∀ j : Fin 8, BitVec.twoPow 8 j.val = Config.checkColumns[j.val]'j.isLt := by decide
    have e : errorColumns[i.val]'(by rw [errorColumns_length]; exact i.isLt) =
        Config.checkColumns[i.val - 64]'h8 := by
      rw [List.getElem_append_right (by omega)]
      simp only [hl]
      rfl
    rw [e, ← hc ⟨i.val - 64, h8⟩]
    simp [flipBit, h, syndrome, BitVec.xor_assoc]

@[simp] theorem syndrome_stored_data (d : ChunkData) : syndrome (ChunkContent.data d).stored = 0#8 := by
  simp [syndrome, ChunkContent.stored]

@[simp] theorem syndrome_stored_poison : syndrome ChunkContent.poison.stored = Config.code.poison := by
  simp [syndrome, ChunkContent.stored, poisonCheck]

theorem errorColumn_mem (i : Fin 72) :
    errorColumns[i.val]'(by rw [errorColumns_length]; exact i.isLt) ∈ errorColumns := List.getElem_mem _

/-- R9: "A syndrome of one bit error always belongs to one bit of the 72". -/
theorem errorBit_column (i : Fin 72) :
    errorBit (errorColumns[i.val]'(by rw [errorColumns_length]; exact i.isLt)) = some i.val := by
  have hn : errorColumns.Nodup := Config.code.lawful.distinct
  unfold errorBit
  rw [List.findIdx?_eq_some_iff_getElem]
  refine ⟨by rw [errorColumns_length]; exact i.isLt, by simp, fun j hj => ?_⟩
  simp only [beq_iff_eq]
  intro h
  have := (List.Nodup.getElem_inj_iff hn).1 h
  omega

theorem errorBit_none (σ : Byte) (h : σ ∉ errorColumns) : errorBit σ = none := by
  unfold errorBit
  rw [List.findIdx?_eq_none_iff]
  intro x hx
  simp only [beq_eq_false_iff_ne]
  exact fun e => h (e ▸ hx)

end Sys2Proof.Machine
end

