-- ==== Sys2Proof/Laws/State.lean ====
section
/-! SUPPORT. Each field of the state under each shared update: the update's value where it writes the field, the old
value where it does not. -/

namespace Sys2Proof.Machine

/-! ## State.quiet -/

@[simp] theorem State.quiet_out (s : State) :
    (s.quiet).out = .none := rfl
@[simp] theorem State.quiet_cfg (s : State) : (s.quiet).cfg = s.cfg := rfl
@[simp] theorem State.quiet_service (s : State) : (s.quiet).service = s.service := rfl
@[simp] theorem State.quiet_lastReset (s : State) : (s.quiet).lastReset = s.lastReset := rfl
@[simp] theorem State.quiet_ports (s : State) : (s.quiet).ports = s.ports := rfl
@[simp] theorem State.quiet_tt (s : State) : (s.quiet).tt = s.tt := rfl
@[simp] theorem State.quiet_nextPosition (s : State) : (s.quiet).nextPosition = s.nextPosition := rfl
@[simp] theorem State.quiet_repairs (s : State) : (s.quiet).repairs = s.repairs := rfl
@[simp] theorem State.quiet_suspects (s : State) : (s.quiet).suspects = s.suspects := rfl
@[simp] theorem State.quiet_sparing (s : State) : (s.quiet).sparing = s.sparing := rfl
@[simp] theorem State.quiet_map (s : State) : (s.quiet).map = s.map := rfl
@[simp] theorem State.quiet_spares (s : State) : (s.quiet).spares = s.spares := rfl
@[simp] theorem State.quiet_engine (s : State) : (s.quiet).engine = s.engine := rfl
@[simp] theorem State.quiet_memory (s : State) : (s.quiet).memory = s.memory := rfl
@[simp] theorem State.quiet_scrub (s : State) : (s.quiet).scrub = s.scrub := rfl
@[simp] theorem State.quiet_microseconds (s : State) : (s.quiet).microseconds = s.microseconds := rfl
@[simp] theorem State.quiet_events (s : State) : (s.quiet).events = s.events := rfl
@[simp] theorem State.quiet_counters (s : State) : (s.quiet).counters = s.counters := rfl
@[simp] theorem State.quiet_link (s : State) : (s.quiet).link = s.link := rfl
@[simp] theorem State.quiet_resetPin (s : State) : (s.quiet).resetPin = s.resetPin := rfl
@[simp] theorem State.quiet_draws (s : State) : (s.quiet).draws = s.draws := rfl
@[simp] theorem State.quiet_pending (s : State) : (s.quiet).pending = s.pending := rfl

/-! ## State.offer -/

@[simp] theorem State.offer_events (s : State) (e : Event) :
    (s.offer e).events = s.events.offer s.cfg.eventMask e := rfl
@[simp] theorem State.offer_cfg (s : State) (e : Event) : (s.offer e).cfg = s.cfg := rfl
@[simp] theorem State.offer_service (s : State) (e : Event) : (s.offer e).service = s.service := rfl
@[simp] theorem State.offer_lastReset (s : State) (e : Event) : (s.offer e).lastReset = s.lastReset := rfl
@[simp] theorem State.offer_ports (s : State) (e : Event) : (s.offer e).ports = s.ports := rfl
@[simp] theorem State.offer_tt (s : State) (e : Event) : (s.offer e).tt = s.tt := rfl
@[simp] theorem State.offer_nextPosition (s : State) (e : Event) : (s.offer e).nextPosition = s.nextPosition := rfl
@[simp] theorem State.offer_repairs (s : State) (e : Event) : (s.offer e).repairs = s.repairs := rfl
@[simp] theorem State.offer_suspects (s : State) (e : Event) : (s.offer e).suspects = s.suspects := rfl
@[simp] theorem State.offer_sparing (s : State) (e : Event) : (s.offer e).sparing = s.sparing := rfl
@[simp] theorem State.offer_map (s : State) (e : Event) : (s.offer e).map = s.map := rfl
@[simp] theorem State.offer_spares (s : State) (e : Event) : (s.offer e).spares = s.spares := rfl
@[simp] theorem State.offer_engine (s : State) (e : Event) : (s.offer e).engine = s.engine := rfl
@[simp] theorem State.offer_memory (s : State) (e : Event) : (s.offer e).memory = s.memory := rfl
@[simp] theorem State.offer_scrub (s : State) (e : Event) : (s.offer e).scrub = s.scrub := rfl
@[simp] theorem State.offer_microseconds (s : State) (e : Event) : (s.offer e).microseconds = s.microseconds := rfl
@[simp] theorem State.offer_counters (s : State) (e : Event) : (s.offer e).counters = s.counters := rfl
@[simp] theorem State.offer_link (s : State) (e : Event) : (s.offer e).link = s.link := rfl
@[simp] theorem State.offer_resetPin (s : State) (e : Event) : (s.offer e).resetPin = s.resetPin := rfl
@[simp] theorem State.offer_out (s : State) (e : Event) : (s.offer e).out = s.out := rfl
@[simp] theorem State.offer_draws (s : State) (e : Event) : (s.offer e).draws = s.draws := rfl
@[simp] theorem State.offer_pending (s : State) (e : Event) : (s.offer e).pending = s.pending := rfl

/-! ## State.bump -/

@[simp] theorem State.bump_counters (s : State) (n : CounterName) :
    (s.bump n).counters = s.counters.bump n := rfl
@[simp] theorem State.bump_cfg (s : State) (n : CounterName) : (s.bump n).cfg = s.cfg := rfl
@[simp] theorem State.bump_service (s : State) (n : CounterName) : (s.bump n).service = s.service := rfl
@[simp] theorem State.bump_lastReset (s : State) (n : CounterName) : (s.bump n).lastReset = s.lastReset := rfl
@[simp] theorem State.bump_ports (s : State) (n : CounterName) : (s.bump n).ports = s.ports := rfl
@[simp] theorem State.bump_tt (s : State) (n : CounterName) : (s.bump n).tt = s.tt := rfl
@[simp] theorem State.bump_nextPosition (s : State) (n : CounterName) : (s.bump n).nextPosition = s.nextPosition := rfl
@[simp] theorem State.bump_repairs (s : State) (n : CounterName) : (s.bump n).repairs = s.repairs := rfl
@[simp] theorem State.bump_suspects (s : State) (n : CounterName) : (s.bump n).suspects = s.suspects := rfl
@[simp] theorem State.bump_sparing (s : State) (n : CounterName) : (s.bump n).sparing = s.sparing := rfl
@[simp] theorem State.bump_map (s : State) (n : CounterName) : (s.bump n).map = s.map := rfl
@[simp] theorem State.bump_spares (s : State) (n : CounterName) : (s.bump n).spares = s.spares := rfl
@[simp] theorem State.bump_engine (s : State) (n : CounterName) : (s.bump n).engine = s.engine := rfl
@[simp] theorem State.bump_memory (s : State) (n : CounterName) : (s.bump n).memory = s.memory := rfl
@[simp] theorem State.bump_scrub (s : State) (n : CounterName) : (s.bump n).scrub = s.scrub := rfl
@[simp] theorem State.bump_microseconds (s : State) (n : CounterName) : (s.bump n).microseconds = s.microseconds := rfl
@[simp] theorem State.bump_events (s : State) (n : CounterName) : (s.bump n).events = s.events := rfl
@[simp] theorem State.bump_link (s : State) (n : CounterName) : (s.bump n).link = s.link := rfl
@[simp] theorem State.bump_resetPin (s : State) (n : CounterName) : (s.bump n).resetPin = s.resetPin := rfl
@[simp] theorem State.bump_out (s : State) (n : CounterName) : (s.bump n).out = s.out := rfl
@[simp] theorem State.bump_draws (s : State) (n : CounterName) : (s.bump n).draws = s.draws := rfl
@[simp] theorem State.bump_pending (s : State) (n : CounterName) : (s.bump n).pending = s.pending := rfl

/-! ## State.setMap -/

@[simp] theorem State.setMap_map (s : State) (i : EntryNumber) (e : MapEntry) :
    (s.setMap i e).map = s.map.set i.1 e i.2 := rfl
@[simp] theorem State.setMap_cfg (s : State) (i : EntryNumber) (e : MapEntry) : (s.setMap i e).cfg = s.cfg := rfl
@[simp] theorem State.setMap_service (s : State) (i : EntryNumber) (e : MapEntry) : (s.setMap i e).service = s.service := rfl
@[simp] theorem State.setMap_lastReset (s : State) (i : EntryNumber) (e : MapEntry) : (s.setMap i e).lastReset = s.lastReset := rfl
@[simp] theorem State.setMap_ports (s : State) (i : EntryNumber) (e : MapEntry) : (s.setMap i e).ports = s.ports := rfl
@[simp] theorem State.setMap_tt (s : State) (i : EntryNumber) (e : MapEntry) : (s.setMap i e).tt = s.tt := rfl
@[simp] theorem State.setMap_nextPosition (s : State) (i : EntryNumber) (e : MapEntry) : (s.setMap i e).nextPosition = s.nextPosition := rfl
@[simp] theorem State.setMap_repairs (s : State) (i : EntryNumber) (e : MapEntry) : (s.setMap i e).repairs = s.repairs := rfl
@[simp] theorem State.setMap_suspects (s : State) (i : EntryNumber) (e : MapEntry) : (s.setMap i e).suspects = s.suspects := rfl
@[simp] theorem State.setMap_sparing (s : State) (i : EntryNumber) (e : MapEntry) : (s.setMap i e).sparing = s.sparing := rfl
@[simp] theorem State.setMap_spares (s : State) (i : EntryNumber) (e : MapEntry) : (s.setMap i e).spares = s.spares := rfl
@[simp] theorem State.setMap_engine (s : State) (i : EntryNumber) (e : MapEntry) : (s.setMap i e).engine = s.engine := rfl
@[simp] theorem State.setMap_memory (s : State) (i : EntryNumber) (e : MapEntry) : (s.setMap i e).memory = s.memory := rfl
@[simp] theorem State.setMap_scrub (s : State) (i : EntryNumber) (e : MapEntry) : (s.setMap i e).scrub = s.scrub := rfl
@[simp] theorem State.setMap_microseconds (s : State) (i : EntryNumber) (e : MapEntry) : (s.setMap i e).microseconds = s.microseconds := rfl
@[simp] theorem State.setMap_events (s : State) (i : EntryNumber) (e : MapEntry) : (s.setMap i e).events = s.events := rfl
@[simp] theorem State.setMap_counters (s : State) (i : EntryNumber) (e : MapEntry) : (s.setMap i e).counters = s.counters := rfl
@[simp] theorem State.setMap_link (s : State) (i : EntryNumber) (e : MapEntry) : (s.setMap i e).link = s.link := rfl
@[simp] theorem State.setMap_resetPin (s : State) (i : EntryNumber) (e : MapEntry) : (s.setMap i e).resetPin = s.resetPin := rfl
@[simp] theorem State.setMap_out (s : State) (i : EntryNumber) (e : MapEntry) : (s.setMap i e).out = s.out := rfl
@[simp] theorem State.setMap_draws (s : State) (i : EntryNumber) (e : MapEntry) : (s.setMap i e).draws = s.draws := rfl
@[simp] theorem State.setMap_pending (s : State) (i : EntryNumber) (e : MapEntry) : (s.setMap i e).pending = s.pending := rfl

/-! ## State.setSpare -/

@[simp] theorem State.setSpare_spares (s : State) (k : Nat) (v : SpareState) :
    (s.setSpare k v).spares = s.spares.set k v := rfl
@[simp] theorem State.setSpare_cfg (s : State) (k : Nat) (v : SpareState) : (s.setSpare k v).cfg = s.cfg := rfl
@[simp] theorem State.setSpare_service (s : State) (k : Nat) (v : SpareState) : (s.setSpare k v).service = s.service := rfl
@[simp] theorem State.setSpare_lastReset (s : State) (k : Nat) (v : SpareState) : (s.setSpare k v).lastReset = s.lastReset := rfl
@[simp] theorem State.setSpare_ports (s : State) (k : Nat) (v : SpareState) : (s.setSpare k v).ports = s.ports := rfl
@[simp] theorem State.setSpare_tt (s : State) (k : Nat) (v : SpareState) : (s.setSpare k v).tt = s.tt := rfl
@[simp] theorem State.setSpare_nextPosition (s : State) (k : Nat) (v : SpareState) : (s.setSpare k v).nextPosition = s.nextPosition := rfl
@[simp] theorem State.setSpare_repairs (s : State) (k : Nat) (v : SpareState) : (s.setSpare k v).repairs = s.repairs := rfl
@[simp] theorem State.setSpare_suspects (s : State) (k : Nat) (v : SpareState) : (s.setSpare k v).suspects = s.suspects := rfl
@[simp] theorem State.setSpare_sparing (s : State) (k : Nat) (v : SpareState) : (s.setSpare k v).sparing = s.sparing := rfl
@[simp] theorem State.setSpare_map (s : State) (k : Nat) (v : SpareState) : (s.setSpare k v).map = s.map := rfl
@[simp] theorem State.setSpare_engine (s : State) (k : Nat) (v : SpareState) : (s.setSpare k v).engine = s.engine := rfl
@[simp] theorem State.setSpare_memory (s : State) (k : Nat) (v : SpareState) : (s.setSpare k v).memory = s.memory := rfl
@[simp] theorem State.setSpare_scrub (s : State) (k : Nat) (v : SpareState) : (s.setSpare k v).scrub = s.scrub := rfl
@[simp] theorem State.setSpare_microseconds (s : State) (k : Nat) (v : SpareState) : (s.setSpare k v).microseconds = s.microseconds := rfl
@[simp] theorem State.setSpare_events (s : State) (k : Nat) (v : SpareState) : (s.setSpare k v).events = s.events := rfl
@[simp] theorem State.setSpare_counters (s : State) (k : Nat) (v : SpareState) : (s.setSpare k v).counters = s.counters := rfl
@[simp] theorem State.setSpare_link (s : State) (k : Nat) (v : SpareState) : (s.setSpare k v).link = s.link := rfl
@[simp] theorem State.setSpare_resetPin (s : State) (k : Nat) (v : SpareState) : (s.setSpare k v).resetPin = s.resetPin := rfl
@[simp] theorem State.setSpare_out (s : State) (k : Nat) (v : SpareState) : (s.setSpare k v).out = s.out := rfl
@[simp] theorem State.setSpare_draws (s : State) (k : Nat) (v : SpareState) : (s.setSpare k v).draws = s.draws := rfl
@[simp] theorem State.setSpare_pending (s : State) (k : Nat) (v : SpareState) : (s.setSpare k v).pending = s.pending := rfl

/-! ## State.relook -/

@[simp] theorem State.relook_tt (s : State) :
    (s.relook).tt = s.tt.map fun e => { e with phase := s.phaseNow e } := rfl
@[simp] theorem State.relook_cfg (s : State) : (s.relook).cfg = s.cfg := rfl
@[simp] theorem State.relook_service (s : State) : (s.relook).service = s.service := rfl
@[simp] theorem State.relook_lastReset (s : State) : (s.relook).lastReset = s.lastReset := rfl
@[simp] theorem State.relook_ports (s : State) : (s.relook).ports = s.ports := rfl
@[simp] theorem State.relook_nextPosition (s : State) : (s.relook).nextPosition = s.nextPosition := rfl
@[simp] theorem State.relook_repairs (s : State) : (s.relook).repairs = s.repairs := rfl
@[simp] theorem State.relook_suspects (s : State) : (s.relook).suspects = s.suspects := rfl
@[simp] theorem State.relook_sparing (s : State) : (s.relook).sparing = s.sparing := rfl
@[simp] theorem State.relook_map (s : State) : (s.relook).map = s.map := rfl
@[simp] theorem State.relook_spares (s : State) : (s.relook).spares = s.spares := rfl
@[simp] theorem State.relook_engine (s : State) : (s.relook).engine = s.engine := rfl
@[simp] theorem State.relook_memory (s : State) : (s.relook).memory = s.memory := rfl
@[simp] theorem State.relook_scrub (s : State) : (s.relook).scrub = s.scrub := rfl
@[simp] theorem State.relook_microseconds (s : State) : (s.relook).microseconds = s.microseconds := rfl
@[simp] theorem State.relook_events (s : State) : (s.relook).events = s.events := rfl
@[simp] theorem State.relook_counters (s : State) : (s.relook).counters = s.counters := rfl
@[simp] theorem State.relook_link (s : State) : (s.relook).link = s.link := rfl
@[simp] theorem State.relook_resetPin (s : State) : (s.relook).resetPin = s.resetPin := rfl
@[simp] theorem State.relook_out (s : State) : (s.relook).out = s.out := rfl
@[simp] theorem State.relook_draws (s : State) : (s.relook).draws = s.draws := rfl
@[simp] theorem State.relook_pending (s : State) : (s.relook).pending = s.pending := rfl

/-! ## State.respond -/

@[simp] theorem State.respond_cfg (s : State) (p : Port) (r : Response) : (s.respond p r).cfg = s.cfg := by cases p <;> rfl
@[simp] theorem State.respond_service (s : State) (p : Port) (r : Response) : (s.respond p r).service = s.service := by cases p <;> rfl
@[simp] theorem State.respond_lastReset (s : State) (p : Port) (r : Response) : (s.respond p r).lastReset = s.lastReset := by cases p <;> rfl
@[simp] theorem State.respond_ports (s : State) (p : Port) (r : Response) : (s.respond p r).ports = s.ports := by cases p <;> rfl
@[simp] theorem State.respond_tt (s : State) (p : Port) (r : Response) : (s.respond p r).tt = s.tt := by cases p <;> rfl
@[simp] theorem State.respond_nextPosition (s : State) (p : Port) (r : Response) : (s.respond p r).nextPosition = s.nextPosition := by cases p <;> rfl
@[simp] theorem State.respond_repairs (s : State) (p : Port) (r : Response) : (s.respond p r).repairs = s.repairs := by cases p <;> rfl
@[simp] theorem State.respond_suspects (s : State) (p : Port) (r : Response) : (s.respond p r).suspects = s.suspects := by cases p <;> rfl
@[simp] theorem State.respond_sparing (s : State) (p : Port) (r : Response) : (s.respond p r).sparing = s.sparing := by cases p <;> rfl
@[simp] theorem State.respond_map (s : State) (p : Port) (r : Response) : (s.respond p r).map = s.map := by cases p <;> rfl
@[simp] theorem State.respond_spares (s : State) (p : Port) (r : Response) : (s.respond p r).spares = s.spares := by cases p <;> rfl
@[simp] theorem State.respond_engine (s : State) (p : Port) (r : Response) : (s.respond p r).engine = s.engine := by cases p <;> rfl
@[simp] theorem State.respond_memory (s : State) (p : Port) (r : Response) : (s.respond p r).memory = s.memory := by cases p <;> rfl
@[simp] theorem State.respond_scrub (s : State) (p : Port) (r : Response) : (s.respond p r).scrub = s.scrub := by cases p <;> rfl
@[simp] theorem State.respond_microseconds (s : State) (p : Port) (r : Response) : (s.respond p r).microseconds = s.microseconds := by cases p <;> rfl
@[simp] theorem State.respond_events (s : State) (p : Port) (r : Response) : (s.respond p r).events = s.events := by cases p <;> rfl
@[simp] theorem State.respond_counters (s : State) (p : Port) (r : Response) : (s.respond p r).counters = s.counters := by cases p <;> rfl
@[simp] theorem State.respond_link (s : State) (p : Port) (r : Response) : (s.respond p r).link = s.link := by cases p <;> rfl
@[simp] theorem State.respond_resetPin (s : State) (p : Port) (r : Response) : (s.respond p r).resetPin = s.resetPin := by cases p <;> rfl
@[simp] theorem State.respond_draws (s : State) (p : Port) (r : Response) : (s.respond p r).draws = s.draws := by cases p <;> rfl
@[simp] theorem State.respond_pending (s : State) (p : Port) (r : Response) : (s.respond p r).pending = s.pending := by cases p <;> rfl

/-! ## State.removeEntry -/

@[simp] theorem State.removeEntry_tt (s : State) (p : Port) (t : Tag) :
    (s.removeEntry p t).tt = s.tt.filter fun e => !(e.port == p && e.tag == t) := rfl
@[simp] theorem State.removeEntry_cfg (s : State) (p : Port) (t : Tag) : (s.removeEntry p t).cfg = s.cfg := rfl
@[simp] theorem State.removeEntry_service (s : State) (p : Port) (t : Tag) : (s.removeEntry p t).service = s.service := rfl
@[simp] theorem State.removeEntry_lastReset (s : State) (p : Port) (t : Tag) : (s.removeEntry p t).lastReset = s.lastReset := rfl
@[simp] theorem State.removeEntry_ports (s : State) (p : Port) (t : Tag) : (s.removeEntry p t).ports = s.ports := rfl
@[simp] theorem State.removeEntry_nextPosition (s : State) (p : Port) (t : Tag) : (s.removeEntry p t).nextPosition = s.nextPosition := rfl
@[simp] theorem State.removeEntry_repairs (s : State) (p : Port) (t : Tag) : (s.removeEntry p t).repairs = s.repairs := rfl
@[simp] theorem State.removeEntry_suspects (s : State) (p : Port) (t : Tag) : (s.removeEntry p t).suspects = s.suspects := rfl
@[simp] theorem State.removeEntry_sparing (s : State) (p : Port) (t : Tag) : (s.removeEntry p t).sparing = s.sparing := rfl
@[simp] theorem State.removeEntry_map (s : State) (p : Port) (t : Tag) : (s.removeEntry p t).map = s.map := rfl
@[simp] theorem State.removeEntry_spares (s : State) (p : Port) (t : Tag) : (s.removeEntry p t).spares = s.spares := rfl
@[simp] theorem State.removeEntry_engine (s : State) (p : Port) (t : Tag) : (s.removeEntry p t).engine = s.engine := rfl
@[simp] theorem State.removeEntry_memory (s : State) (p : Port) (t : Tag) : (s.removeEntry p t).memory = s.memory := rfl
@[simp] theorem State.removeEntry_scrub (s : State) (p : Port) (t : Tag) : (s.removeEntry p t).scrub = s.scrub := rfl
@[simp] theorem State.removeEntry_microseconds (s : State) (p : Port) (t : Tag) : (s.removeEntry p t).microseconds = s.microseconds := rfl
@[simp] theorem State.removeEntry_events (s : State) (p : Port) (t : Tag) : (s.removeEntry p t).events = s.events := rfl
@[simp] theorem State.removeEntry_counters (s : State) (p : Port) (t : Tag) : (s.removeEntry p t).counters = s.counters := rfl
@[simp] theorem State.removeEntry_link (s : State) (p : Port) (t : Tag) : (s.removeEntry p t).link = s.link := rfl
@[simp] theorem State.removeEntry_resetPin (s : State) (p : Port) (t : Tag) : (s.removeEntry p t).resetPin = s.resetPin := rfl
@[simp] theorem State.removeEntry_out (s : State) (p : Port) (t : Tag) : (s.removeEntry p t).out = s.out := rfl
@[simp] theorem State.removeEntry_draws (s : State) (p : Port) (t : Tag) : (s.removeEntry p t).draws = s.draws := rfl
@[simp] theorem State.removeEntry_pending (s : State) (p : Port) (t : Tag) : (s.removeEntry p t).pending = s.pending := rfl

/-! ## State.updateEntry -/

@[simp] theorem State.updateEntry_tt (s : State) (p : Port) (t : Tag) (f : Entry → Entry) :
    (s.updateEntry p t f).tt = s.tt.map fun e => if e.port == p && e.tag == t then f e else e := rfl
@[simp] theorem State.updateEntry_cfg (s : State) (p : Port) (t : Tag) (f : Entry → Entry) : (s.updateEntry p t f).cfg = s.cfg := rfl
@[simp] theorem State.updateEntry_service (s : State) (p : Port) (t : Tag) (f : Entry → Entry) : (s.updateEntry p t f).service = s.service := rfl
@[simp] theorem State.updateEntry_lastReset (s : State) (p : Port) (t : Tag) (f : Entry → Entry) : (s.updateEntry p t f).lastReset = s.lastReset := rfl
@[simp] theorem State.updateEntry_ports (s : State) (p : Port) (t : Tag) (f : Entry → Entry) : (s.updateEntry p t f).ports = s.ports := rfl
@[simp] theorem State.updateEntry_nextPosition (s : State) (p : Port) (t : Tag) (f : Entry → Entry) : (s.updateEntry p t f).nextPosition = s.nextPosition := rfl
@[simp] theorem State.updateEntry_repairs (s : State) (p : Port) (t : Tag) (f : Entry → Entry) : (s.updateEntry p t f).repairs = s.repairs := rfl
@[simp] theorem State.updateEntry_suspects (s : State) (p : Port) (t : Tag) (f : Entry → Entry) : (s.updateEntry p t f).suspects = s.suspects := rfl
@[simp] theorem State.updateEntry_sparing (s : State) (p : Port) (t : Tag) (f : Entry → Entry) : (s.updateEntry p t f).sparing = s.sparing := rfl
@[simp] theorem State.updateEntry_map (s : State) (p : Port) (t : Tag) (f : Entry → Entry) : (s.updateEntry p t f).map = s.map := rfl
@[simp] theorem State.updateEntry_spares (s : State) (p : Port) (t : Tag) (f : Entry → Entry) : (s.updateEntry p t f).spares = s.spares := rfl
@[simp] theorem State.updateEntry_engine (s : State) (p : Port) (t : Tag) (f : Entry → Entry) : (s.updateEntry p t f).engine = s.engine := rfl
@[simp] theorem State.updateEntry_memory (s : State) (p : Port) (t : Tag) (f : Entry → Entry) : (s.updateEntry p t f).memory = s.memory := rfl
@[simp] theorem State.updateEntry_scrub (s : State) (p : Port) (t : Tag) (f : Entry → Entry) : (s.updateEntry p t f).scrub = s.scrub := rfl
@[simp] theorem State.updateEntry_microseconds (s : State) (p : Port) (t : Tag) (f : Entry → Entry) : (s.updateEntry p t f).microseconds = s.microseconds := rfl
@[simp] theorem State.updateEntry_events (s : State) (p : Port) (t : Tag) (f : Entry → Entry) : (s.updateEntry p t f).events = s.events := rfl
@[simp] theorem State.updateEntry_counters (s : State) (p : Port) (t : Tag) (f : Entry → Entry) : (s.updateEntry p t f).counters = s.counters := rfl
@[simp] theorem State.updateEntry_link (s : State) (p : Port) (t : Tag) (f : Entry → Entry) : (s.updateEntry p t f).link = s.link := rfl
@[simp] theorem State.updateEntry_resetPin (s : State) (p : Port) (t : Tag) (f : Entry → Entry) : (s.updateEntry p t f).resetPin = s.resetPin := rfl
@[simp] theorem State.updateEntry_out (s : State) (p : Port) (t : Tag) (f : Entry → Entry) : (s.updateEntry p t f).out = s.out := rfl
@[simp] theorem State.updateEntry_draws (s : State) (p : Port) (t : Tag) (f : Entry → Entry) : (s.updateEntry p t f).draws = s.draws := rfl
@[simp] theorem State.updateEntry_pending (s : State) (p : Port) (t : Tag) (f : Entry → Entry) : (s.updateEntry p t f).pending = s.pending := rfl

/-! ## State.answer -/

@[simp] theorem State.answer_tt (s : State) (e : Entry) (st : ResponseStatus) (d : List Byte) :
    (s.answer e st d).tt = s.tt.filter fun x => !(x.port == e.port && x.tag == e.tag) := by simp [State.answer]
@[simp] theorem State.answer_cfg (s : State) (e : Entry) (st : ResponseStatus) (d : List Byte) : (s.answer e st d).cfg = s.cfg := by simp [State.answer]
@[simp] theorem State.answer_service (s : State) (e : Entry) (st : ResponseStatus) (d : List Byte) : (s.answer e st d).service = s.service := by simp [State.answer]
@[simp] theorem State.answer_lastReset (s : State) (e : Entry) (st : ResponseStatus) (d : List Byte) : (s.answer e st d).lastReset = s.lastReset := by simp [State.answer]
@[simp] theorem State.answer_ports (s : State) (e : Entry) (st : ResponseStatus) (d : List Byte) : (s.answer e st d).ports = s.ports := by simp [State.answer]
@[simp] theorem State.answer_nextPosition (s : State) (e : Entry) (st : ResponseStatus) (d : List Byte) : (s.answer e st d).nextPosition = s.nextPosition := by simp [State.answer]
@[simp] theorem State.answer_repairs (s : State) (e : Entry) (st : ResponseStatus) (d : List Byte) : (s.answer e st d).repairs = s.repairs := by simp [State.answer]
@[simp] theorem State.answer_suspects (s : State) (e : Entry) (st : ResponseStatus) (d : List Byte) : (s.answer e st d).suspects = s.suspects := by simp [State.answer]
@[simp] theorem State.answer_sparing (s : State) (e : Entry) (st : ResponseStatus) (d : List Byte) : (s.answer e st d).sparing = s.sparing := by simp [State.answer]
@[simp] theorem State.answer_map (s : State) (e : Entry) (st : ResponseStatus) (d : List Byte) : (s.answer e st d).map = s.map := by simp [State.answer]
@[simp] theorem State.answer_spares (s : State) (e : Entry) (st : ResponseStatus) (d : List Byte) : (s.answer e st d).spares = s.spares := by simp [State.answer]
@[simp] theorem State.answer_engine (s : State) (e : Entry) (st : ResponseStatus) (d : List Byte) : (s.answer e st d).engine = s.engine := by simp [State.answer]
@[simp] theorem State.answer_memory (s : State) (e : Entry) (st : ResponseStatus) (d : List Byte) : (s.answer e st d).memory = s.memory := by simp [State.answer]
@[simp] theorem State.answer_scrub (s : State) (e : Entry) (st : ResponseStatus) (d : List Byte) : (s.answer e st d).scrub = s.scrub := by simp [State.answer]
@[simp] theorem State.answer_microseconds (s : State) (e : Entry) (st : ResponseStatus) (d : List Byte) : (s.answer e st d).microseconds = s.microseconds := by simp [State.answer]
@[simp] theorem State.answer_events (s : State) (e : Entry) (st : ResponseStatus) (d : List Byte) : (s.answer e st d).events = s.events := by simp [State.answer]
@[simp] theorem State.answer_counters (s : State) (e : Entry) (st : ResponseStatus) (d : List Byte) : (s.answer e st d).counters = s.counters := by simp [State.answer]
@[simp] theorem State.answer_link (s : State) (e : Entry) (st : ResponseStatus) (d : List Byte) : (s.answer e st d).link = s.link := by simp [State.answer]
@[simp] theorem State.answer_resetPin (s : State) (e : Entry) (st : ResponseStatus) (d : List Byte) : (s.answer e st d).resetPin = s.resetPin := by simp [State.answer]
@[simp] theorem State.answer_draws (s : State) (e : Entry) (st : ResponseStatus) (d : List Byte) : (s.answer e st d).draws = s.draws := by simp [State.answer]
@[simp] theorem State.answer_pending (s : State) (e : Entry) (st : ResponseStatus) (d : List Byte) : (s.answer e st d).pending = s.pending := by simp [State.answer]

/-! ## State.setSlot -/

@[simp] theorem State.setSlot_memory (s : State) (n : SlotNumber) (v : Slot) :
    (s.setSlot n v).memory = { s.memory with slots := s.memory.slots.set n.1 v n.2 } := rfl
@[simp] theorem State.setSlot_cfg (s : State) (n : SlotNumber) (v : Slot) : (s.setSlot n v).cfg = s.cfg := rfl
@[simp] theorem State.setSlot_service (s : State) (n : SlotNumber) (v : Slot) : (s.setSlot n v).service = s.service := rfl
@[simp] theorem State.setSlot_lastReset (s : State) (n : SlotNumber) (v : Slot) : (s.setSlot n v).lastReset = s.lastReset := rfl
@[simp] theorem State.setSlot_ports (s : State) (n : SlotNumber) (v : Slot) : (s.setSlot n v).ports = s.ports := rfl
@[simp] theorem State.setSlot_tt (s : State) (n : SlotNumber) (v : Slot) : (s.setSlot n v).tt = s.tt := rfl
@[simp] theorem State.setSlot_nextPosition (s : State) (n : SlotNumber) (v : Slot) : (s.setSlot n v).nextPosition = s.nextPosition := rfl
@[simp] theorem State.setSlot_repairs (s : State) (n : SlotNumber) (v : Slot) : (s.setSlot n v).repairs = s.repairs := rfl
@[simp] theorem State.setSlot_suspects (s : State) (n : SlotNumber) (v : Slot) : (s.setSlot n v).suspects = s.suspects := rfl
@[simp] theorem State.setSlot_sparing (s : State) (n : SlotNumber) (v : Slot) : (s.setSlot n v).sparing = s.sparing := rfl
@[simp] theorem State.setSlot_map (s : State) (n : SlotNumber) (v : Slot) : (s.setSlot n v).map = s.map := rfl
@[simp] theorem State.setSlot_spares (s : State) (n : SlotNumber) (v : Slot) : (s.setSlot n v).spares = s.spares := rfl
@[simp] theorem State.setSlot_engine (s : State) (n : SlotNumber) (v : Slot) : (s.setSlot n v).engine = s.engine := rfl
@[simp] theorem State.setSlot_scrub (s : State) (n : SlotNumber) (v : Slot) : (s.setSlot n v).scrub = s.scrub := rfl
@[simp] theorem State.setSlot_microseconds (s : State) (n : SlotNumber) (v : Slot) : (s.setSlot n v).microseconds = s.microseconds := rfl
@[simp] theorem State.setSlot_events (s : State) (n : SlotNumber) (v : Slot) : (s.setSlot n v).events = s.events := rfl
@[simp] theorem State.setSlot_counters (s : State) (n : SlotNumber) (v : Slot) : (s.setSlot n v).counters = s.counters := rfl
@[simp] theorem State.setSlot_link (s : State) (n : SlotNumber) (v : Slot) : (s.setSlot n v).link = s.link := rfl
@[simp] theorem State.setSlot_resetPin (s : State) (n : SlotNumber) (v : Slot) : (s.setSlot n v).resetPin = s.resetPin := rfl
@[simp] theorem State.setSlot_out (s : State) (n : SlotNumber) (v : Slot) : (s.setSlot n v).out = s.out := rfl
@[simp] theorem State.setSlot_draws (s : State) (n : SlotNumber) (v : Slot) : (s.setSlot n v).draws = s.draws := rfl
@[simp] theorem State.setSlot_pending (s : State) (n : SlotNumber) (v : Slot) : (s.setSlot n v).pending = s.pending := rfl

/-! ## State.setHeld -/

@[simp] theorem State.setHeld_cfg (s : State) (p : Port) (r : Option Request) : (s.setHeld p r).cfg = s.cfg := by cases p <;> rfl
@[simp] theorem State.setHeld_service (s : State) (p : Port) (r : Option Request) : (s.setHeld p r).service = s.service := by cases p <;> rfl
@[simp] theorem State.setHeld_lastReset (s : State) (p : Port) (r : Option Request) : (s.setHeld p r).lastReset = s.lastReset := by cases p <;> rfl
@[simp] theorem State.setHeld_tt (s : State) (p : Port) (r : Option Request) : (s.setHeld p r).tt = s.tt := by cases p <;> rfl
@[simp] theorem State.setHeld_nextPosition (s : State) (p : Port) (r : Option Request) : (s.setHeld p r).nextPosition = s.nextPosition := by cases p <;> rfl
@[simp] theorem State.setHeld_repairs (s : State) (p : Port) (r : Option Request) : (s.setHeld p r).repairs = s.repairs := by cases p <;> rfl
@[simp] theorem State.setHeld_suspects (s : State) (p : Port) (r : Option Request) : (s.setHeld p r).suspects = s.suspects := by cases p <;> rfl
@[simp] theorem State.setHeld_sparing (s : State) (p : Port) (r : Option Request) : (s.setHeld p r).sparing = s.sparing := by cases p <;> rfl
@[simp] theorem State.setHeld_map (s : State) (p : Port) (r : Option Request) : (s.setHeld p r).map = s.map := by cases p <;> rfl
@[simp] theorem State.setHeld_spares (s : State) (p : Port) (r : Option Request) : (s.setHeld p r).spares = s.spares := by cases p <;> rfl
@[simp] theorem State.setHeld_engine (s : State) (p : Port) (r : Option Request) : (s.setHeld p r).engine = s.engine := by cases p <;> rfl
@[simp] theorem State.setHeld_memory (s : State) (p : Port) (r : Option Request) : (s.setHeld p r).memory = s.memory := by cases p <;> rfl
@[simp] theorem State.setHeld_scrub (s : State) (p : Port) (r : Option Request) : (s.setHeld p r).scrub = s.scrub := by cases p <;> rfl
@[simp] theorem State.setHeld_microseconds (s : State) (p : Port) (r : Option Request) : (s.setHeld p r).microseconds = s.microseconds := by cases p <;> rfl
@[simp] theorem State.setHeld_events (s : State) (p : Port) (r : Option Request) : (s.setHeld p r).events = s.events := by cases p <;> rfl
@[simp] theorem State.setHeld_counters (s : State) (p : Port) (r : Option Request) : (s.setHeld p r).counters = s.counters := by cases p <;> rfl
@[simp] theorem State.setHeld_link (s : State) (p : Port) (r : Option Request) : (s.setHeld p r).link = s.link := by cases p <;> rfl
@[simp] theorem State.setHeld_resetPin (s : State) (p : Port) (r : Option Request) : (s.setHeld p r).resetPin = s.resetPin := by cases p <;> rfl
@[simp] theorem State.setHeld_out (s : State) (p : Port) (r : Option Request) : (s.setHeld p r).out = s.out := by cases p <;> rfl
@[simp] theorem State.setHeld_draws (s : State) (p : Port) (r : Option Request) : (s.setHeld p r).draws = s.draws := by cases p <;> rfl
@[simp] theorem State.setHeld_pending (s : State) (p : Port) (r : Option Request) : (s.setHeld p r).pending = s.pending := by cases p <;> rfl

/-! ## State.accept -/

@[simp] theorem State.accept_nextPosition (s : State) (r : Request) :
    (s.accept r).nextPosition = s.nextPosition + 1 := rfl
@[simp] theorem State.accept_cfg (s : State) (r : Request) : (s.accept r).cfg = s.cfg := rfl
@[simp] theorem State.accept_service (s : State) (r : Request) : (s.accept r).service = s.service := rfl
@[simp] theorem State.accept_lastReset (s : State) (r : Request) : (s.accept r).lastReset = s.lastReset := rfl
@[simp] theorem State.accept_ports (s : State) (r : Request) : (s.accept r).ports = s.ports := rfl
@[simp] theorem State.accept_repairs (s : State) (r : Request) : (s.accept r).repairs = s.repairs := rfl
@[simp] theorem State.accept_suspects (s : State) (r : Request) : (s.accept r).suspects = s.suspects := rfl
@[simp] theorem State.accept_sparing (s : State) (r : Request) : (s.accept r).sparing = s.sparing := rfl
@[simp] theorem State.accept_map (s : State) (r : Request) : (s.accept r).map = s.map := rfl
@[simp] theorem State.accept_spares (s : State) (r : Request) : (s.accept r).spares = s.spares := rfl
@[simp] theorem State.accept_engine (s : State) (r : Request) : (s.accept r).engine = s.engine := rfl
@[simp] theorem State.accept_memory (s : State) (r : Request) : (s.accept r).memory = s.memory := rfl
@[simp] theorem State.accept_scrub (s : State) (r : Request) : (s.accept r).scrub = s.scrub := rfl
@[simp] theorem State.accept_microseconds (s : State) (r : Request) : (s.accept r).microseconds = s.microseconds := rfl
@[simp] theorem State.accept_events (s : State) (r : Request) : (s.accept r).events = s.events := rfl
@[simp] theorem State.accept_counters (s : State) (r : Request) : (s.accept r).counters = s.counters := rfl
@[simp] theorem State.accept_link (s : State) (r : Request) : (s.accept r).link = s.link := rfl
@[simp] theorem State.accept_resetPin (s : State) (r : Request) : (s.accept r).resetPin = s.resetPin := rfl
@[simp] theorem State.accept_out (s : State) (r : Request) : (s.accept r).out = s.out := rfl
@[simp] theorem State.accept_draws (s : State) (r : Request) : (s.accept r).draws = s.draws := rfl
@[simp] theorem State.accept_pending (s : State) (r : Request) : (s.accept r).pending = s.pending := rfl

/-! ## State.hold -/

@[simp] theorem State.hold_link (s : State) (c : Byte) (st : Status) (b : List Byte) (u : Bool) :
    (s.hold c st b u).link = { s.link with slot := .ready ⟨c, st, b, u⟩ } := rfl
@[simp] theorem State.hold_cfg (s : State) (c : Byte) (st : Status) (b : List Byte) (u : Bool) : (s.hold c st b u).cfg = s.cfg := rfl
@[simp] theorem State.hold_service (s : State) (c : Byte) (st : Status) (b : List Byte) (u : Bool) : (s.hold c st b u).service = s.service := rfl
@[simp] theorem State.hold_lastReset (s : State) (c : Byte) (st : Status) (b : List Byte) (u : Bool) : (s.hold c st b u).lastReset = s.lastReset := rfl
@[simp] theorem State.hold_ports (s : State) (c : Byte) (st : Status) (b : List Byte) (u : Bool) : (s.hold c st b u).ports = s.ports := rfl
@[simp] theorem State.hold_tt (s : State) (c : Byte) (st : Status) (b : List Byte) (u : Bool) : (s.hold c st b u).tt = s.tt := rfl
@[simp] theorem State.hold_nextPosition (s : State) (c : Byte) (st : Status) (b : List Byte) (u : Bool) : (s.hold c st b u).nextPosition = s.nextPosition := rfl
@[simp] theorem State.hold_repairs (s : State) (c : Byte) (st : Status) (b : List Byte) (u : Bool) : (s.hold c st b u).repairs = s.repairs := rfl
@[simp] theorem State.hold_suspects (s : State) (c : Byte) (st : Status) (b : List Byte) (u : Bool) : (s.hold c st b u).suspects = s.suspects := rfl
@[simp] theorem State.hold_sparing (s : State) (c : Byte) (st : Status) (b : List Byte) (u : Bool) : (s.hold c st b u).sparing = s.sparing := rfl
@[simp] theorem State.hold_map (s : State) (c : Byte) (st : Status) (b : List Byte) (u : Bool) : (s.hold c st b u).map = s.map := rfl
@[simp] theorem State.hold_spares (s : State) (c : Byte) (st : Status) (b : List Byte) (u : Bool) : (s.hold c st b u).spares = s.spares := rfl
@[simp] theorem State.hold_engine (s : State) (c : Byte) (st : Status) (b : List Byte) (u : Bool) : (s.hold c st b u).engine = s.engine := rfl
@[simp] theorem State.hold_memory (s : State) (c : Byte) (st : Status) (b : List Byte) (u : Bool) : (s.hold c st b u).memory = s.memory := rfl
@[simp] theorem State.hold_scrub (s : State) (c : Byte) (st : Status) (b : List Byte) (u : Bool) : (s.hold c st b u).scrub = s.scrub := rfl
@[simp] theorem State.hold_microseconds (s : State) (c : Byte) (st : Status) (b : List Byte) (u : Bool) : (s.hold c st b u).microseconds = s.microseconds := rfl
@[simp] theorem State.hold_events (s : State) (c : Byte) (st : Status) (b : List Byte) (u : Bool) : (s.hold c st b u).events = s.events := rfl
@[simp] theorem State.hold_counters (s : State) (c : Byte) (st : Status) (b : List Byte) (u : Bool) : (s.hold c st b u).counters = s.counters := rfl
@[simp] theorem State.hold_resetPin (s : State) (c : Byte) (st : Status) (b : List Byte) (u : Bool) : (s.hold c st b u).resetPin = s.resetPin := rfl
@[simp] theorem State.hold_out (s : State) (c : Byte) (st : Status) (b : List Byte) (u : Bool) : (s.hold c st b u).out = s.out := rfl
@[simp] theorem State.hold_draws (s : State) (c : Byte) (st : Status) (b : List Byte) (u : Bool) : (s.hold c st b u).draws = s.draws := rfl
@[simp] theorem State.hold_pending (s : State) (c : Byte) (st : Status) (b : List Byte) (u : Bool) : (s.hold c st b u).pending = s.pending := rfl

/-! ## State.execute -/

@[simp] theorem State.execute_link (s : State) (c : DrainCommand) (u : Bool) :
    (s.execute c u).link = { s.link with slot := .executing c u } := rfl
@[simp] theorem State.execute_cfg (s : State) (c : DrainCommand) (u : Bool) : (s.execute c u).cfg = s.cfg := rfl
@[simp] theorem State.execute_service (s : State) (c : DrainCommand) (u : Bool) : (s.execute c u).service = s.service := rfl
@[simp] theorem State.execute_lastReset (s : State) (c : DrainCommand) (u : Bool) : (s.execute c u).lastReset = s.lastReset := rfl
@[simp] theorem State.execute_ports (s : State) (c : DrainCommand) (u : Bool) : (s.execute c u).ports = s.ports := rfl
@[simp] theorem State.execute_tt (s : State) (c : DrainCommand) (u : Bool) : (s.execute c u).tt = s.tt := rfl
@[simp] theorem State.execute_nextPosition (s : State) (c : DrainCommand) (u : Bool) : (s.execute c u).nextPosition = s.nextPosition := rfl
@[simp] theorem State.execute_repairs (s : State) (c : DrainCommand) (u : Bool) : (s.execute c u).repairs = s.repairs := rfl
@[simp] theorem State.execute_suspects (s : State) (c : DrainCommand) (u : Bool) : (s.execute c u).suspects = s.suspects := rfl
@[simp] theorem State.execute_sparing (s : State) (c : DrainCommand) (u : Bool) : (s.execute c u).sparing = s.sparing := rfl
@[simp] theorem State.execute_map (s : State) (c : DrainCommand) (u : Bool) : (s.execute c u).map = s.map := rfl
@[simp] theorem State.execute_spares (s : State) (c : DrainCommand) (u : Bool) : (s.execute c u).spares = s.spares := rfl
@[simp] theorem State.execute_engine (s : State) (c : DrainCommand) (u : Bool) : (s.execute c u).engine = s.engine := rfl
@[simp] theorem State.execute_memory (s : State) (c : DrainCommand) (u : Bool) : (s.execute c u).memory = s.memory := rfl
@[simp] theorem State.execute_scrub (s : State) (c : DrainCommand) (u : Bool) : (s.execute c u).scrub = s.scrub := rfl
@[simp] theorem State.execute_microseconds (s : State) (c : DrainCommand) (u : Bool) : (s.execute c u).microseconds = s.microseconds := rfl
@[simp] theorem State.execute_events (s : State) (c : DrainCommand) (u : Bool) : (s.execute c u).events = s.events := rfl
@[simp] theorem State.execute_counters (s : State) (c : DrainCommand) (u : Bool) : (s.execute c u).counters = s.counters := rfl
@[simp] theorem State.execute_resetPin (s : State) (c : DrainCommand) (u : Bool) : (s.execute c u).resetPin = s.resetPin := rfl
@[simp] theorem State.execute_out (s : State) (c : DrainCommand) (u : Bool) : (s.execute c u).out = s.out := rfl
@[simp] theorem State.execute_draws (s : State) (c : DrainCommand) (u : Bool) : (s.execute c u).draws = s.draws := rfl
@[simp] theorem State.execute_pending (s : State) (c : DrainCommand) (u : Bool) : (s.execute c u).pending = s.pending := rfl

/-! ## State.ignoreFrame -/

@[simp] theorem State.ignoreFrame_link (s : State) :
    (s.ignoreFrame).link = { s.link with overrun := true } := rfl
@[simp] theorem State.ignoreFrame_cfg (s : State) : (s.ignoreFrame).cfg = s.cfg := rfl
@[simp] theorem State.ignoreFrame_service (s : State) : (s.ignoreFrame).service = s.service := rfl
@[simp] theorem State.ignoreFrame_lastReset (s : State) : (s.ignoreFrame).lastReset = s.lastReset := rfl
@[simp] theorem State.ignoreFrame_ports (s : State) : (s.ignoreFrame).ports = s.ports := rfl
@[simp] theorem State.ignoreFrame_tt (s : State) : (s.ignoreFrame).tt = s.tt := rfl
@[simp] theorem State.ignoreFrame_nextPosition (s : State) : (s.ignoreFrame).nextPosition = s.nextPosition := rfl
@[simp] theorem State.ignoreFrame_repairs (s : State) : (s.ignoreFrame).repairs = s.repairs := rfl
@[simp] theorem State.ignoreFrame_suspects (s : State) : (s.ignoreFrame).suspects = s.suspects := rfl
@[simp] theorem State.ignoreFrame_sparing (s : State) : (s.ignoreFrame).sparing = s.sparing := rfl
@[simp] theorem State.ignoreFrame_map (s : State) : (s.ignoreFrame).map = s.map := rfl
@[simp] theorem State.ignoreFrame_spares (s : State) : (s.ignoreFrame).spares = s.spares := rfl
@[simp] theorem State.ignoreFrame_engine (s : State) : (s.ignoreFrame).engine = s.engine := rfl
@[simp] theorem State.ignoreFrame_memory (s : State) : (s.ignoreFrame).memory = s.memory := rfl
@[simp] theorem State.ignoreFrame_scrub (s : State) : (s.ignoreFrame).scrub = s.scrub := rfl
@[simp] theorem State.ignoreFrame_microseconds (s : State) : (s.ignoreFrame).microseconds = s.microseconds := rfl
@[simp] theorem State.ignoreFrame_events (s : State) : (s.ignoreFrame).events = s.events := rfl
@[simp] theorem State.ignoreFrame_counters (s : State) : (s.ignoreFrame).counters = s.counters := rfl
@[simp] theorem State.ignoreFrame_resetPin (s : State) : (s.ignoreFrame).resetPin = s.resetPin := rfl
@[simp] theorem State.ignoreFrame_out (s : State) : (s.ignoreFrame).out = s.out := rfl
@[simp] theorem State.ignoreFrame_draws (s : State) : (s.ignoreFrame).draws = s.draws := rfl
@[simp] theorem State.ignoreFrame_pending (s : State) : (s.ignoreFrame).pending = s.pending := rfl

/-! ## State.zeroMiso -/

@[simp] theorem State.zeroMiso_out (s : State) (n : Nat) :
    (s.zeroMiso n).out = { s.out with miso := List.replicate n 0x00 } := rfl
@[simp] theorem State.zeroMiso_cfg (s : State) (n : Nat) : (s.zeroMiso n).cfg = s.cfg := rfl
@[simp] theorem State.zeroMiso_service (s : State) (n : Nat) : (s.zeroMiso n).service = s.service := rfl
@[simp] theorem State.zeroMiso_lastReset (s : State) (n : Nat) : (s.zeroMiso n).lastReset = s.lastReset := rfl
@[simp] theorem State.zeroMiso_ports (s : State) (n : Nat) : (s.zeroMiso n).ports = s.ports := rfl
@[simp] theorem State.zeroMiso_tt (s : State) (n : Nat) : (s.zeroMiso n).tt = s.tt := rfl
@[simp] theorem State.zeroMiso_nextPosition (s : State) (n : Nat) : (s.zeroMiso n).nextPosition = s.nextPosition := rfl
@[simp] theorem State.zeroMiso_repairs (s : State) (n : Nat) : (s.zeroMiso n).repairs = s.repairs := rfl
@[simp] theorem State.zeroMiso_suspects (s : State) (n : Nat) : (s.zeroMiso n).suspects = s.suspects := rfl
@[simp] theorem State.zeroMiso_sparing (s : State) (n : Nat) : (s.zeroMiso n).sparing = s.sparing := rfl
@[simp] theorem State.zeroMiso_map (s : State) (n : Nat) : (s.zeroMiso n).map = s.map := rfl
@[simp] theorem State.zeroMiso_spares (s : State) (n : Nat) : (s.zeroMiso n).spares = s.spares := rfl
@[simp] theorem State.zeroMiso_engine (s : State) (n : Nat) : (s.zeroMiso n).engine = s.engine := rfl
@[simp] theorem State.zeroMiso_memory (s : State) (n : Nat) : (s.zeroMiso n).memory = s.memory := rfl
@[simp] theorem State.zeroMiso_scrub (s : State) (n : Nat) : (s.zeroMiso n).scrub = s.scrub := rfl
@[simp] theorem State.zeroMiso_microseconds (s : State) (n : Nat) : (s.zeroMiso n).microseconds = s.microseconds := rfl
@[simp] theorem State.zeroMiso_events (s : State) (n : Nat) : (s.zeroMiso n).events = s.events := rfl
@[simp] theorem State.zeroMiso_counters (s : State) (n : Nat) : (s.zeroMiso n).counters = s.counters := rfl
@[simp] theorem State.zeroMiso_link (s : State) (n : Nat) : (s.zeroMiso n).link = s.link := rfl
@[simp] theorem State.zeroMiso_resetPin (s : State) (n : Nat) : (s.zeroMiso n).resetPin = s.resetPin := rfl
@[simp] theorem State.zeroMiso_draws (s : State) (n : Nat) : (s.zeroMiso n).draws = s.draws := rfl
@[simp] theorem State.zeroMiso_pending (s : State) (n : Nat) : (s.zeroMiso n).pending = s.pending := rfl

/-! ## State.abandonEntries -/

@[simp] theorem State.abandonEntries_tt (s : State) :
    (s.abandonEntries).tt = s.tt.filter fun e => e.isIssued := rfl
@[simp] theorem State.abandonEntries_cfg (s : State) : (s.abandonEntries).cfg = s.cfg := rfl
@[simp] theorem State.abandonEntries_service (s : State) : (s.abandonEntries).service = s.service := rfl
@[simp] theorem State.abandonEntries_lastReset (s : State) : (s.abandonEntries).lastReset = s.lastReset := rfl
@[simp] theorem State.abandonEntries_ports (s : State) : (s.abandonEntries).ports = s.ports := rfl
@[simp] theorem State.abandonEntries_nextPosition (s : State) : (s.abandonEntries).nextPosition = s.nextPosition := rfl
@[simp] theorem State.abandonEntries_repairs (s : State) : (s.abandonEntries).repairs = s.repairs := rfl
@[simp] theorem State.abandonEntries_suspects (s : State) : (s.abandonEntries).suspects = s.suspects := rfl
@[simp] theorem State.abandonEntries_sparing (s : State) : (s.abandonEntries).sparing = s.sparing := rfl
@[simp] theorem State.abandonEntries_map (s : State) : (s.abandonEntries).map = s.map := rfl
@[simp] theorem State.abandonEntries_spares (s : State) : (s.abandonEntries).spares = s.spares := rfl
@[simp] theorem State.abandonEntries_engine (s : State) : (s.abandonEntries).engine = s.engine := rfl
@[simp] theorem State.abandonEntries_memory (s : State) : (s.abandonEntries).memory = s.memory := rfl
@[simp] theorem State.abandonEntries_scrub (s : State) : (s.abandonEntries).scrub = s.scrub := rfl
@[simp] theorem State.abandonEntries_microseconds (s : State) : (s.abandonEntries).microseconds = s.microseconds := rfl
@[simp] theorem State.abandonEntries_events (s : State) : (s.abandonEntries).events = s.events := rfl
@[simp] theorem State.abandonEntries_counters (s : State) : (s.abandonEntries).counters = s.counters := rfl
@[simp] theorem State.abandonEntries_link (s : State) : (s.abandonEntries).link = s.link := rfl
@[simp] theorem State.abandonEntries_resetPin (s : State) : (s.abandonEntries).resetPin = s.resetPin := rfl
@[simp] theorem State.abandonEntries_pending (s : State) : (s.abandonEntries).pending = s.pending := rfl

/-! ## State.abandonRepairs -/

@[simp] theorem State.abandonRepairs_repairs (s : State) :
    (s.abandonRepairs).repairs = { s.repairs with queue := [] } := rfl
@[simp] theorem State.abandonRepairs_cfg (s : State) : (s.abandonRepairs).cfg = s.cfg := rfl
@[simp] theorem State.abandonRepairs_service (s : State) : (s.abandonRepairs).service = s.service := rfl
@[simp] theorem State.abandonRepairs_lastReset (s : State) : (s.abandonRepairs).lastReset = s.lastReset := rfl
@[simp] theorem State.abandonRepairs_ports (s : State) : (s.abandonRepairs).ports = s.ports := rfl
@[simp] theorem State.abandonRepairs_tt (s : State) : (s.abandonRepairs).tt = s.tt := rfl
@[simp] theorem State.abandonRepairs_nextPosition (s : State) : (s.abandonRepairs).nextPosition = s.nextPosition := rfl
@[simp] theorem State.abandonRepairs_suspects (s : State) : (s.abandonRepairs).suspects = s.suspects := rfl
@[simp] theorem State.abandonRepairs_sparing (s : State) : (s.abandonRepairs).sparing = s.sparing := rfl
@[simp] theorem State.abandonRepairs_map (s : State) : (s.abandonRepairs).map = s.map := rfl
@[simp] theorem State.abandonRepairs_spares (s : State) : (s.abandonRepairs).spares = s.spares := rfl
@[simp] theorem State.abandonRepairs_engine (s : State) : (s.abandonRepairs).engine = s.engine := rfl
@[simp] theorem State.abandonRepairs_memory (s : State) : (s.abandonRepairs).memory = s.memory := rfl
@[simp] theorem State.abandonRepairs_scrub (s : State) : (s.abandonRepairs).scrub = s.scrub := rfl
@[simp] theorem State.abandonRepairs_microseconds (s : State) : (s.abandonRepairs).microseconds = s.microseconds := rfl
@[simp] theorem State.abandonRepairs_events (s : State) : (s.abandonRepairs).events = s.events := rfl
@[simp] theorem State.abandonRepairs_counters (s : State) : (s.abandonRepairs).counters = s.counters := rfl
@[simp] theorem State.abandonRepairs_link (s : State) : (s.abandonRepairs).link = s.link := rfl
@[simp] theorem State.abandonRepairs_resetPin (s : State) : (s.abandonRepairs).resetPin = s.resetPin := rfl
@[simp] theorem State.abandonRepairs_out (s : State) : (s.abandonRepairs).out = s.out := rfl
@[simp] theorem State.abandonRepairs_draws (s : State) : (s.abandonRepairs).draws = s.draws := rfl
@[simp] theorem State.abandonRepairs_pending (s : State) : (s.abandonRepairs).pending = s.pending := rfl

/-! ## State.createScrubRead -/

@[simp] theorem State.createScrubRead_nextPosition (s : State) :
    (s.createScrubRead).nextPosition = s.nextPosition + 1 := rfl
@[simp] theorem State.createScrubRead_scrub (s : State) :
    (s.createScrubRead).scrub = { s.scrub with state := .pending, read := some ⟨s.scrub.cursor, s.nextPosition, none⟩ } := rfl
@[simp] theorem State.createScrubRead_cfg (s : State) : (s.createScrubRead).cfg = s.cfg := rfl
@[simp] theorem State.createScrubRead_service (s : State) : (s.createScrubRead).service = s.service := rfl
@[simp] theorem State.createScrubRead_lastReset (s : State) : (s.createScrubRead).lastReset = s.lastReset := rfl
@[simp] theorem State.createScrubRead_ports (s : State) : (s.createScrubRead).ports = s.ports := rfl
@[simp] theorem State.createScrubRead_tt (s : State) : (s.createScrubRead).tt = s.tt := rfl
@[simp] theorem State.createScrubRead_repairs (s : State) : (s.createScrubRead).repairs = s.repairs := rfl
@[simp] theorem State.createScrubRead_suspects (s : State) : (s.createScrubRead).suspects = s.suspects := rfl
@[simp] theorem State.createScrubRead_sparing (s : State) : (s.createScrubRead).sparing = s.sparing := rfl
@[simp] theorem State.createScrubRead_map (s : State) : (s.createScrubRead).map = s.map := rfl
@[simp] theorem State.createScrubRead_spares (s : State) : (s.createScrubRead).spares = s.spares := rfl
@[simp] theorem State.createScrubRead_engine (s : State) : (s.createScrubRead).engine = s.engine := rfl
@[simp] theorem State.createScrubRead_memory (s : State) : (s.createScrubRead).memory = s.memory := rfl
@[simp] theorem State.createScrubRead_microseconds (s : State) : (s.createScrubRead).microseconds = s.microseconds := rfl
@[simp] theorem State.createScrubRead_events (s : State) : (s.createScrubRead).events = s.events := rfl
@[simp] theorem State.createScrubRead_counters (s : State) : (s.createScrubRead).counters = s.counters := rfl
@[simp] theorem State.createScrubRead_link (s : State) : (s.createScrubRead).link = s.link := rfl
@[simp] theorem State.createScrubRead_resetPin (s : State) : (s.createScrubRead).resetPin = s.resetPin := rfl
@[simp] theorem State.createScrubRead_out (s : State) : (s.createScrubRead).out = s.out := rfl
@[simp] theorem State.createScrubRead_draws (s : State) : (s.createScrubRead).draws = s.draws := rfl
@[simp] theorem State.createScrubRead_pending (s : State) : (s.createScrubRead).pending = s.pending := rfl

/-! ## State.startScrub -/

@[simp] theorem State.startScrub_cfg (s : State) : (s.startScrub).cfg = s.cfg := rfl
@[simp] theorem State.startScrub_service (s : State) : (s.startScrub).service = s.service := rfl
@[simp] theorem State.startScrub_lastReset (s : State) : (s.startScrub).lastReset = s.lastReset := rfl
@[simp] theorem State.startScrub_ports (s : State) : (s.startScrub).ports = s.ports := rfl
@[simp] theorem State.startScrub_tt (s : State) : (s.startScrub).tt = s.tt := rfl
@[simp] theorem State.startScrub_nextPosition (s : State) : (s.startScrub).nextPosition = s.nextPosition := rfl
@[simp] theorem State.startScrub_repairs (s : State) : (s.startScrub).repairs = s.repairs := rfl
@[simp] theorem State.startScrub_suspects (s : State) : (s.startScrub).suspects = s.suspects := rfl
@[simp] theorem State.startScrub_sparing (s : State) : (s.startScrub).sparing = s.sparing := rfl
@[simp] theorem State.startScrub_map (s : State) : (s.startScrub).map = s.map := rfl
@[simp] theorem State.startScrub_spares (s : State) : (s.startScrub).spares = s.spares := rfl
@[simp] theorem State.startScrub_engine (s : State) : (s.startScrub).engine = s.engine := rfl
@[simp] theorem State.startScrub_memory (s : State) : (s.startScrub).memory = s.memory := rfl
@[simp] theorem State.startScrub_microseconds (s : State) : (s.startScrub).microseconds = s.microseconds := rfl
@[simp] theorem State.startScrub_events (s : State) : (s.startScrub).events = s.events := rfl
@[simp] theorem State.startScrub_counters (s : State) : (s.startScrub).counters = s.counters := rfl
@[simp] theorem State.startScrub_link (s : State) : (s.startScrub).link = s.link := rfl
@[simp] theorem State.startScrub_resetPin (s : State) : (s.startScrub).resetPin = s.resetPin := rfl
@[simp] theorem State.startScrub_out (s : State) : (s.startScrub).out = s.out := rfl
@[simp] theorem State.startScrub_draws (s : State) : (s.startScrub).draws = s.draws := rfl
@[simp] theorem State.startScrub_pending (s : State) : (s.startScrub).pending = s.pending := rfl

end Sys2Proof.Machine
end

