-- ==== Sys2Proof/Laws/Frames.lean ====
section
/-! SUPPORT. What each composite operation never changes: one lemma for each operation. -/

namespace Sys2Proof.Machine

@[simp] theorem State.quiesceEnd_frame (s : State) :
    s.quiesceEnd.cfg = s.cfg ∧ s.quiesceEnd.service = s.service ∧ s.quiesceEnd.lastReset = s.lastReset ∧
    s.quiesceEnd.ports = s.ports ∧ s.quiesceEnd.tt = s.tt ∧ s.quiesceEnd.nextPosition = s.nextPosition ∧
    s.quiesceEnd.repairs = s.repairs ∧ s.quiesceEnd.suspects = s.suspects ∧ s.quiesceEnd.sparing = s.sparing ∧
    s.quiesceEnd.map = s.map ∧ s.quiesceEnd.spares = s.spares ∧ s.quiesceEnd.memory = s.memory ∧ s.quiesceEnd.scrub
    = s.scrub ∧ s.quiesceEnd.microseconds = s.microseconds ∧ s.quiesceEnd.events = s.events ∧ s.quiesceEnd.counters
    = s.counters ∧ s.quiesceEnd.link = s.link ∧ s.quiesceEnd.resetPin = s.resetPin ∧ s.quiesceEnd.out = s.out ∧
    s.quiesceEnd.draws = s.draws ∧ s.quiesceEnd.pending = s.pending := by
  simp only [State.quiesceEnd]; (repeat' split) <;> simp

@[simp] theorem State.reportChunks_frame (s : State) (src : ReadSource) (k : EventKind) (n : CounterName) (l : List ChunkNumber) :
    (s.reportChunks src k n l).cfg = s.cfg ∧ (s.reportChunks src k n l).service = s.service ∧ (s.reportChunks src k
    n l).lastReset = s.lastReset ∧ (s.reportChunks src k n l).ports = s.ports ∧ (s.reportChunks src k n l).tt = s.tt
    ∧ (s.reportChunks src k n l).nextPosition = s.nextPosition ∧ (s.reportChunks src k n l).repairs = s.repairs ∧
    (s.reportChunks src k n l).suspects = s.suspects ∧ (s.reportChunks src k n l).sparing = s.sparing ∧
    (s.reportChunks src k n l).map = s.map ∧ (s.reportChunks src k n l).spares = s.spares ∧ (s.reportChunks src k n
    l).engine = s.engine ∧ (s.reportChunks src k n l).memory = s.memory ∧ (s.reportChunks src k n l).scrub = s.scrub
    ∧ (s.reportChunks src k n l).microseconds = s.microseconds ∧ (s.reportChunks src k n l).link = s.link ∧
    (s.reportChunks src k n l).resetPin = s.resetPin ∧ (s.reportChunks src k n l).out = s.out ∧ (s.reportChunks src
    k n l).draws = s.draws ∧ (s.reportChunks src k n l).pending = s.pending := by
  cases l <;> simp [State.reportChunks]

@[simp] theorem State.reportRead_frame (s : State) (src : ReadSource) (r : LineResult) (l : List ChunkNumber) :
    (s.reportRead src r l).cfg = s.cfg ∧ (s.reportRead src r l).service = s.service ∧ (s.reportRead src r
    l).lastReset = s.lastReset ∧ (s.reportRead src r l).ports = s.ports ∧ (s.reportRead src r l).tt = s.tt ∧
    (s.reportRead src r l).nextPosition = s.nextPosition ∧ (s.reportRead src r l).repairs = s.repairs ∧
    (s.reportRead src r l).suspects = s.suspects ∧ (s.reportRead src r l).sparing = s.sparing ∧ (s.reportRead src r
    l).map = s.map ∧ (s.reportRead src r l).spares = s.spares ∧ (s.reportRead src r l).engine = s.engine ∧
    (s.reportRead src r l).memory = s.memory ∧ (s.reportRead src r l).scrub = s.scrub ∧ (s.reportRead src r
    l).microseconds = s.microseconds ∧ (s.reportRead src r l).link = s.link ∧ (s.reportRead src r l).resetPin =
    s.resetPin ∧ (s.reportRead src r l).out = s.out ∧ (s.reportRead src r l).draws = s.draws ∧ (s.reportRead src r
    l).pending = s.pending := by
  simp [State.reportRead]

@[simp] theorem State.offerSparing_frame (s : State) (r : SparingRequest) (t : Option Tag) :
    (s.offerSparing r t).cfg = s.cfg ∧ (s.offerSparing r t).service = s.service ∧ (s.offerSparing r t).lastReset =
    s.lastReset ∧ (s.offerSparing r t).ports = s.ports ∧ (s.offerSparing r t).tt = s.tt ∧ (s.offerSparing r
    t).nextPosition = s.nextPosition ∧ (s.offerSparing r t).repairs = s.repairs ∧ (s.offerSparing r t).suspects =
    s.suspects ∧ (s.offerSparing r t).map = s.map ∧ (s.offerSparing r t).spares = s.spares ∧ (s.offerSparing r
    t).engine = s.engine ∧ (s.offerSparing r t).memory = s.memory ∧ (s.offerSparing r t).scrub = s.scrub ∧
    (s.offerSparing r t).microseconds = s.microseconds ∧ (s.offerSparing r t).counters = s.counters ∧
    (s.offerSparing r t).link = s.link ∧ (s.offerSparing r t).resetPin = s.resetPin ∧ (s.offerSparing r t).out =
    s.out ∧ (s.offerSparing r t).draws = s.draws ∧ (s.offerSparing r t).pending = s.pending := by
  simp only [State.offerSparing]; (repeat' split) <;> simp

@[simp] theorem State.raiseThreshold_frame (s : State) (l : Location) (o : Origin) (t : Option Tag) :
    (s.raiseThreshold l o t).cfg = s.cfg ∧ (s.raiseThreshold l o t).service = s.service ∧ (s.raiseThreshold l o
    t).lastReset = s.lastReset ∧ (s.raiseThreshold l o t).ports = s.ports ∧ (s.raiseThreshold l o t).tt = s.tt ∧
    (s.raiseThreshold l o t).nextPosition = s.nextPosition ∧ (s.raiseThreshold l o t).repairs = s.repairs ∧
    (s.raiseThreshold l o t).suspects = s.suspects ∧ (s.raiseThreshold l o t).map = s.map ∧ (s.raiseThreshold l o
    t).spares = s.spares ∧ (s.raiseThreshold l o t).engine = s.engine ∧ (s.raiseThreshold l o t).memory = s.memory ∧
    (s.raiseThreshold l o t).scrub = s.scrub ∧ (s.raiseThreshold l o t).microseconds = s.microseconds ∧
    (s.raiseThreshold l o t).counters = s.counters ∧ (s.raiseThreshold l o t).link = s.link ∧ (s.raiseThreshold l o
    t).resetPin = s.resetPin ∧ (s.raiseThreshold l o t).out = s.out ∧ (s.raiseThreshold l o t).draws = s.draws ∧
    (s.raiseThreshold l o t).pending = s.pending := by
  simp only [State.raiseThreshold]; (repeat' split) <;> simp

@[simp] theorem State.suspectUpdate_frame (s : State) (l : Location) (o : Origin) (t : Option Tag) :
    (s.suspectUpdate l o t).cfg = s.cfg ∧ (s.suspectUpdate l o t).service = s.service ∧ (s.suspectUpdate l o
    t).lastReset = s.lastReset ∧ (s.suspectUpdate l o t).ports = s.ports ∧ (s.suspectUpdate l o t).tt = s.tt ∧
    (s.suspectUpdate l o t).nextPosition = s.nextPosition ∧ (s.suspectUpdate l o t).repairs = s.repairs ∧
    (s.suspectUpdate l o t).map = s.map ∧ (s.suspectUpdate l o t).spares = s.spares ∧ (s.suspectUpdate l o t).engine
    = s.engine ∧ (s.suspectUpdate l o t).memory = s.memory ∧ (s.suspectUpdate l o t).scrub = s.scrub ∧
    (s.suspectUpdate l o t).microseconds = s.microseconds ∧ (s.suspectUpdate l o t).counters = s.counters ∧
    (s.suspectUpdate l o t).link = s.link ∧ (s.suspectUpdate l o t).resetPin = s.resetPin ∧ (s.suspectUpdate l o
    t).out = s.out ∧ (s.suspectUpdate l o t).draws = s.draws ∧ (s.suspectUpdate l o t).pending = s.pending := by
  simp only [State.suspectUpdate]; (repeat' split) <;> simp

@[simp] theorem State.settleRepair_frame (s : State) (src : ReadSource) (l : List (ChunkNumber × ChunkContent)) :
    (s.settleRepair src l).cfg = s.cfg ∧ (s.settleRepair src l).service = s.service ∧ (s.settleRepair src
    l).lastReset = s.lastReset ∧ (s.settleRepair src l).ports = s.ports ∧ (s.settleRepair src l).tt = s.tt ∧
    (s.settleRepair src l).suspects = s.suspects ∧ (s.settleRepair src l).sparing = s.sparing ∧ (s.settleRepair src
    l).map = s.map ∧ (s.settleRepair src l).spares = s.spares ∧ (s.settleRepair src l).engine = s.engine ∧
    (s.settleRepair src l).memory = s.memory ∧ (s.settleRepair src l).scrub = s.scrub ∧ (s.settleRepair src
    l).microseconds = s.microseconds ∧ (s.settleRepair src l).link = s.link ∧ (s.settleRepair src l).resetPin =
    s.resetPin ∧ (s.settleRepair src l).out = s.out ∧ (s.settleRepair src l).draws = s.draws ∧ (s.settleRepair src
    l).pending = s.pending := by
  simp only [State.settleRepair]; (repeat' split) <;> simp

@[simp] theorem State.offerRepair_frame (s : State) (src : ReadSource) (r : LineResult) :
    (s.offerRepair src r).cfg = s.cfg ∧ (s.offerRepair src r).service = s.service ∧ (s.offerRepair src r).lastReset
    = s.lastReset ∧ (s.offerRepair src r).ports = s.ports ∧ (s.offerRepair src r).tt = s.tt ∧ (s.offerRepair src
    r).suspects = s.suspects ∧ (s.offerRepair src r).sparing = s.sparing ∧ (s.offerRepair src r).map = s.map ∧
    (s.offerRepair src r).spares = s.spares ∧ (s.offerRepair src r).engine = s.engine ∧ (s.offerRepair src r).memory
    = s.memory ∧ (s.offerRepair src r).scrub = s.scrub ∧ (s.offerRepair src r).microseconds = s.microseconds ∧
    (s.offerRepair src r).link = s.link ∧ (s.offerRepair src r).resetPin = s.resetPin ∧ (s.offerRepair src r).out =
    s.out ∧ (s.offerRepair src r).draws = s.draws ∧ (s.offerRepair src r).pending = s.pending := by
  simp only [State.offerRepair]; (repeat' split) <;> simp

@[simp] theorem State.handOn_frame (s : State) (src : ReadSource) (r : LineResult) (b : Bool) :
    (s.handOn src r b).cfg = s.cfg ∧ (s.handOn src r b).service = s.service ∧ (s.handOn src r b).lastReset =
    s.lastReset ∧ (s.handOn src r b).ports = s.ports ∧ (s.handOn src r b).tt = s.tt ∧ (s.handOn src r b).map = s.map
    ∧ (s.handOn src r b).spares = s.spares ∧ (s.handOn src r b).engine = s.engine ∧ (s.handOn src r b).memory =
    s.memory ∧ (s.handOn src r b).scrub = s.scrub ∧ (s.handOn src r b).microseconds = s.microseconds ∧ (s.handOn src
    r b).link = s.link ∧ (s.handOn src r b).resetPin = s.resetPin ∧ (s.handOn src r b).out = s.out ∧ (s.handOn src r
    b).draws = s.draws ∧ (s.handOn src r b).pending = s.pending := by
  unfold State.handOn; cases b <;> simp <;> (repeat' split) <;> simp

@[simp] theorem State.passEnd_frame (s : State) :
    s.passEnd.cfg = s.cfg ∧ s.passEnd.service = s.service ∧ s.passEnd.lastReset = s.lastReset ∧ s.passEnd.ports =
    s.ports ∧ s.passEnd.tt = s.tt ∧ s.passEnd.nextPosition = s.nextPosition ∧ s.passEnd.repairs = s.repairs ∧
    s.passEnd.sparing = s.sparing ∧ s.passEnd.map = s.map ∧ s.passEnd.spares = s.spares ∧ s.passEnd.engine =
    s.engine ∧ s.passEnd.memory = s.memory ∧ s.passEnd.microseconds = s.microseconds ∧ s.passEnd.link = s.link ∧
    s.passEnd.resetPin = s.resetPin ∧ s.passEnd.out = s.out ∧ s.passEnd.draws = s.draws ∧ s.passEnd.pending =
    s.pending := by
  simp [State.passEnd]

@[simp] theorem State.advanceCursor_frame (s : State) :
    s.advanceCursor.cfg = s.cfg ∧ s.advanceCursor.service = s.service ∧ s.advanceCursor.lastReset = s.lastReset ∧
    s.advanceCursor.ports = s.ports ∧ s.advanceCursor.tt = s.tt ∧ s.advanceCursor.nextPosition = s.nextPosition ∧
    s.advanceCursor.repairs = s.repairs ∧ s.advanceCursor.sparing = s.sparing ∧ s.advanceCursor.map = s.map ∧
    s.advanceCursor.spares = s.spares ∧ s.advanceCursor.engine = s.engine ∧ s.advanceCursor.memory = s.memory ∧
    s.advanceCursor.microseconds = s.microseconds ∧ s.advanceCursor.link = s.link ∧ s.advanceCursor.resetPin =
    s.resetPin ∧ s.advanceCursor.out = s.out ∧ s.advanceCursor.draws = s.draws ∧ s.advanceCursor.pending = s.pending := by
  simp only [State.advanceCursor]; (repeat' split) <;> simp

@[simp] theorem State.countdownExpiry_frame (s : State) :
    s.countdownExpiry.cfg = s.cfg ∧ s.countdownExpiry.service = s.service ∧ s.countdownExpiry.lastReset =
    s.lastReset ∧ s.countdownExpiry.ports = s.ports ∧ s.countdownExpiry.tt = s.tt ∧ s.countdownExpiry.repairs =
    s.repairs ∧ s.countdownExpiry.sparing = s.sparing ∧ s.countdownExpiry.map = s.map ∧ s.countdownExpiry.spares =
    s.spares ∧ s.countdownExpiry.engine = s.engine ∧ s.countdownExpiry.memory = s.memory ∧
    s.countdownExpiry.microseconds = s.microseconds ∧ s.countdownExpiry.link = s.link ∧ s.countdownExpiry.resetPin =
    s.resetPin ∧ s.countdownExpiry.out = s.out ∧ s.countdownExpiry.draws = s.draws ∧ s.countdownExpiry.pending =
    s.pending := by
  simp only [State.countdownExpiry]; (repeat' split) <;> simp

@[simp] theorem State.ceaseScrubRead_frame (s : State) :
    s.ceaseScrubRead.cfg = s.cfg ∧ s.ceaseScrubRead.service = s.service ∧ s.ceaseScrubRead.lastReset = s.lastReset ∧
    s.ceaseScrubRead.ports = s.ports ∧ s.ceaseScrubRead.nextPosition = s.nextPosition ∧ s.ceaseScrubRead.repairs =
    s.repairs ∧ s.ceaseScrubRead.suspects = s.suspects ∧ s.ceaseScrubRead.sparing = s.sparing ∧ s.ceaseScrubRead.map
    = s.map ∧ s.ceaseScrubRead.spares = s.spares ∧ s.ceaseScrubRead.engine = s.engine ∧ s.ceaseScrubRead.memory =
    s.memory ∧ s.ceaseScrubRead.microseconds = s.microseconds ∧ s.ceaseScrubRead.events = s.events ∧
    s.ceaseScrubRead.counters = s.counters ∧ s.ceaseScrubRead.link = s.link ∧ s.ceaseScrubRead.resetPin = s.resetPin
    ∧ s.ceaseScrubRead.out = s.out ∧ s.ceaseScrubRead.draws = s.draws ∧ s.ceaseScrubRead.pending = s.pending := by
  simp [State.ceaseScrubRead]

@[simp] theorem State.endScrubRead_frame (s : State) (r : Option LineResult) :
    (s.endScrubRead r).cfg = s.cfg ∧ (s.endScrubRead r).service = s.service ∧ (s.endScrubRead r).lastReset =
    s.lastReset ∧ (s.endScrubRead r).ports = s.ports ∧ (s.endScrubRead r).map = s.map ∧ (s.endScrubRead r).spares =
    s.spares ∧ (s.endScrubRead r).engine = s.engine ∧ (s.endScrubRead r).memory = s.memory ∧ (s.endScrubRead
    r).microseconds = s.microseconds ∧ (s.endScrubRead r).link = s.link ∧ (s.endScrubRead r).resetPin = s.resetPin ∧
    (s.endScrubRead r).out = s.out ∧ (s.endScrubRead r).draws = s.draws ∧ (s.endScrubRead r).pending = s.pending := by
  unfold State.endScrubRead; cases r <;> (repeat' split) <;> simp

@[simp] theorem State.takeWithSpare_frame (s : State) (h : Nat) (i : EntryNumber) (o : OldTarget) (n : Nat) :
    (s.takeWithSpare h i o n).cfg = s.cfg ∧ (s.takeWithSpare h i o n).service = s.service ∧ (s.takeWithSpare h i o
    n).lastReset = s.lastReset ∧ (s.takeWithSpare h i o n).ports = s.ports ∧ (s.takeWithSpare h i o n).nextPosition
    = s.nextPosition ∧ (s.takeWithSpare h i o n).suspects = s.suspects ∧ (s.takeWithSpare h i o n).sparing =
    s.sparing ∧ (s.takeWithSpare h i o n).memory = s.memory ∧ (s.takeWithSpare h i o n).scrub = s.scrub ∧
    (s.takeWithSpare h i o n).microseconds = s.microseconds ∧ (s.takeWithSpare h i o n).events = s.events ∧
    (s.takeWithSpare h i o n).counters = s.counters ∧ (s.takeWithSpare h i o n).link = s.link ∧ (s.takeWithSpare h i
    o n).resetPin = s.resetPin ∧ (s.takeWithSpare h i o n).out = s.out ∧ (s.takeWithSpare h i o n).draws = s.draws ∧
    (s.takeWithSpare h i o n).pending = s.pending := by
  simp [State.takeWithSpare]

@[simp] theorem State.noSpare_frame (s : State) (r : SparingRequest) :
    (s.noSpare r).cfg = s.cfg ∧ (s.noSpare r).service = s.service ∧ (s.noSpare r).lastReset = s.lastReset ∧
    (s.noSpare r).ports = s.ports ∧ (s.noSpare r).tt = s.tt ∧ (s.noSpare r).nextPosition = s.nextPosition ∧
    (s.noSpare r).repairs = s.repairs ∧ (s.noSpare r).suspects = s.suspects ∧ (s.noSpare r).sparing = s.sparing ∧
    (s.noSpare r).map = s.map ∧ (s.noSpare r).spares = s.spares ∧ (s.noSpare r).engine = s.engine ∧ (s.noSpare
    r).memory = s.memory ∧ (s.noSpare r).scrub = s.scrub ∧ (s.noSpare r).microseconds = s.microseconds ∧ (s.noSpare
    r).counters = s.counters ∧ (s.noSpare r).link = s.link ∧ (s.noSpare r).resetPin = s.resetPin ∧ (s.noSpare r).out
    = s.out ∧ (s.noSpare r).draws = s.draws ∧ (s.noSpare r).pending = s.pending := by
  simp [State.noSpare]

@[simp] theorem State.takeHead_frame (s : State) :
    s.takeHead.cfg = s.cfg ∧ s.takeHead.service = s.service ∧ s.takeHead.lastReset = s.lastReset ∧ s.takeHead.ports
    = s.ports ∧ s.takeHead.nextPosition = s.nextPosition ∧ s.takeHead.suspects = s.suspects ∧ s.takeHead.memory =
    s.memory ∧ s.takeHead.scrub = s.scrub ∧ s.takeHead.microseconds = s.microseconds ∧ s.takeHead.counters =
    s.counters ∧ s.takeHead.link = s.link ∧ s.takeHead.resetPin = s.resetPin ∧ s.takeHead.out = s.out ∧
    s.takeHead.draws = s.draws ∧ s.takeHead.pending = s.pending := by
  simp only [State.takeHead]; (repeat' split) <;> simp

@[simp] theorem State.takeIfDue_frame (s : State) :
    s.takeIfDue.cfg = s.cfg ∧ s.takeIfDue.service = s.service ∧ s.takeIfDue.lastReset = s.lastReset ∧
    s.takeIfDue.ports = s.ports ∧ s.takeIfDue.nextPosition = s.nextPosition ∧ s.takeIfDue.suspects = s.suspects ∧
    s.takeIfDue.memory = s.memory ∧ s.takeIfDue.scrub = s.scrub ∧ s.takeIfDue.microseconds = s.microseconds ∧
    s.takeIfDue.counters = s.counters ∧ s.takeIfDue.link = s.link ∧ s.takeIfDue.resetPin = s.resetPin ∧
    s.takeIfDue.out = s.out ∧ s.takeIfDue.draws = s.draws ∧ s.takeIfDue.pending = s.pending := by
  simp only [State.takeIfDue]; (repeat' split) <;> simp

@[simp] theorem State.revert_frame (s : State) (m : Migration) (v : SpareState) :
    (s.revert m v).cfg = s.cfg ∧ (s.revert m v).service = s.service ∧ (s.revert m v).lastReset = s.lastReset ∧
    (s.revert m v).ports = s.ports ∧ (s.revert m v).nextPosition = s.nextPosition ∧ (s.revert m v).repairs =
    s.repairs ∧ (s.revert m v).suspects = s.suspects ∧ (s.revert m v).sparing = s.sparing ∧ (s.revert m v).memory =
    s.memory ∧ (s.revert m v).scrub = s.scrub ∧ (s.revert m v).microseconds = s.microseconds ∧ (s.revert m v).events
    = s.events ∧ (s.revert m v).counters = s.counters ∧ (s.revert m v).link = s.link ∧ (s.revert m v).resetPin =
    s.resetPin ∧ (s.revert m v).out = s.out ∧ (s.revert m v).draws = s.draws ∧ (s.revert m v).pending = s.pending := by
  simp [State.revert]

@[simp] theorem State.retireOld_frame (s : State) (o : OldTarget) :
    (s.retireOld o).cfg = s.cfg ∧ (s.retireOld o).service = s.service ∧ (s.retireOld o).lastReset = s.lastReset ∧
    (s.retireOld o).ports = s.ports ∧ (s.retireOld o).tt = s.tt ∧ (s.retireOld o).nextPosition = s.nextPosition ∧
    (s.retireOld o).repairs = s.repairs ∧ (s.retireOld o).suspects = s.suspects ∧ (s.retireOld o).sparing =
    s.sparing ∧ (s.retireOld o).map = s.map ∧ (s.retireOld o).engine = s.engine ∧ (s.retireOld o).memory = s.memory
    ∧ (s.retireOld o).scrub = s.scrub ∧ (s.retireOld o).microseconds = s.microseconds ∧ (s.retireOld o).events =
    s.events ∧ (s.retireOld o).counters = s.counters ∧ (s.retireOld o).link = s.link ∧ (s.retireOld o).resetPin =
    s.resetPin ∧ (s.retireOld o).out = s.out ∧ (s.retireOld o).draws = s.draws ∧ (s.retireOld o).pending = s.pending := by
  cases o <;> simp [State.retireOld]

@[simp] theorem State.commit_frame (s : State) (m : Migration) :
    (s.commit m).cfg = s.cfg ∧ (s.commit m).service = s.service ∧ (s.commit m).lastReset = s.lastReset ∧ (s.commit
    m).ports = s.ports ∧ (s.commit m).nextPosition = s.nextPosition ∧ (s.commit m).repairs = s.repairs ∧ (s.commit
    m).sparing = s.sparing ∧ (s.commit m).memory = s.memory ∧ (s.commit m).scrub = s.scrub ∧ (s.commit
    m).microseconds = s.microseconds ∧ (s.commit m).link = s.link ∧ (s.commit m).resetPin = s.resetPin ∧ (s.commit
    m).out = s.out ∧ (s.commit m).draws = s.draws ∧ (s.commit m).pending = s.pending := by
  simp [State.commit]

@[simp] theorem State.failMigration_frame (s : State) (m : Migration) (g : Stage) (v : SpareState) :
    (s.failMigration m g v).cfg = s.cfg ∧ (s.failMigration m g v).service = s.service ∧ (s.failMigration m g
    v).lastReset = s.lastReset ∧ (s.failMigration m g v).ports = s.ports ∧ (s.failMigration m g v).nextPosition =
    s.nextPosition ∧ (s.failMigration m g v).repairs = s.repairs ∧ (s.failMigration m g v).suspects = s.suspects ∧
    (s.failMigration m g v).sparing = s.sparing ∧ (s.failMigration m g v).memory = s.memory ∧ (s.failMigration m g
    v).scrub = s.scrub ∧ (s.failMigration m g v).microseconds = s.microseconds ∧ (s.failMigration m g v).link =
    s.link ∧ (s.failMigration m g v).resetPin = s.resetPin ∧ (s.failMigration m g v).out = s.out ∧ (s.failMigration
    m g v).draws = s.draws ∧ (s.failMigration m g v).pending = s.pending := by
  simp [State.failMigration]

@[simp] theorem State.endCopyRead_frame (s : State) (r : Option LineResult) :
    (s.endCopyRead r).cfg = s.cfg ∧ (s.endCopyRead r).service = s.service ∧ (s.endCopyRead r).lastReset =
    s.lastReset ∧ (s.endCopyRead r).ports = s.ports ∧ (s.endCopyRead r).nextPosition = s.nextPosition ∧
    (s.endCopyRead r).repairs = s.repairs ∧ (s.endCopyRead r).suspects = s.suspects ∧ (s.endCopyRead r).sparing =
    s.sparing ∧ (s.endCopyRead r).memory = s.memory ∧ (s.endCopyRead r).scrub = s.scrub ∧ (s.endCopyRead
    r).microseconds = s.microseconds ∧ (s.endCopyRead r).link = s.link ∧ (s.endCopyRead r).resetPin = s.resetPin ∧
    (s.endCopyRead r).out = s.out ∧ (s.endCopyRead r).draws = s.draws ∧ (s.endCopyRead r).pending = s.pending := by
  simp only [State.endCopyRead]; (repeat' split) <;> simp

@[simp] theorem State.endCopyWrite_frame (s : State) (b : Bool) :
    (s.endCopyWrite b).cfg = s.cfg ∧ (s.endCopyWrite b).service = s.service ∧ (s.endCopyWrite b).lastReset =
    s.lastReset ∧ (s.endCopyWrite b).ports = s.ports ∧ (s.endCopyWrite b).nextPosition = s.nextPosition ∧
    (s.endCopyWrite b).repairs = s.repairs ∧ (s.endCopyWrite b).sparing = s.sparing ∧ (s.endCopyWrite b).memory =
    s.memory ∧ (s.endCopyWrite b).scrub = s.scrub ∧ (s.endCopyWrite b).microseconds = s.microseconds ∧
    (s.endCopyWrite b).link = s.link ∧ (s.endCopyWrite b).resetPin = s.resetPin ∧ (s.endCopyWrite b).out = s.out ∧
    (s.endCopyWrite b).draws = s.draws ∧ (s.endCopyWrite b).pending = s.pending := by
  simp only [State.endCopyWrite]; (repeat' split) <;> simp

@[simp] theorem State.settleMigration_frame (s : State) :
    s.settleMigration.cfg = s.cfg ∧ s.settleMigration.service = s.service ∧ s.settleMigration.lastReset =
    s.lastReset ∧ s.settleMigration.ports = s.ports ∧ s.settleMigration.nextPosition = s.nextPosition ∧
    s.settleMigration.repairs = s.repairs ∧ s.settleMigration.suspects = s.suspects ∧ s.settleMigration.sparing =
    s.sparing ∧ s.settleMigration.memory = s.memory ∧ s.settleMigration.scrub = s.scrub ∧
    s.settleMigration.microseconds = s.microseconds ∧ s.settleMigration.events = s.events ∧
    s.settleMigration.counters = s.counters ∧ s.settleMigration.link = s.link ∧ s.settleMigration.resetPin =
    s.resetPin ∧ s.settleMigration.out = s.out ∧ s.settleMigration.draws = s.draws ∧ s.settleMigration.pending =
    s.pending := by
  simp only [State.settleMigration]; (repeat' split) <;> simp

@[simp] theorem State.endRead_frame (s : State) (e : Entry) (r : LineResult) :
    (s.endRead e r).cfg = s.cfg ∧ (s.endRead e r).service = s.service ∧ (s.endRead e r).lastReset = s.lastReset ∧
    (s.endRead e r).ports = s.ports ∧ (s.endRead e r).map = s.map ∧ (s.endRead e r).spares = s.spares ∧ (s.endRead e
    r).engine = s.engine ∧ (s.endRead e r).memory = s.memory ∧ (s.endRead e r).scrub = s.scrub ∧ (s.endRead e
    r).microseconds = s.microseconds ∧ (s.endRead e r).link = s.link ∧ (s.endRead e r).resetPin = s.resetPin ∧
    (s.endRead e r).draws = s.draws ∧ (s.endRead e r).pending = s.pending := by
  simp [State.endRead]

@[simp] theorem State.endReadPhase_frame (s : State) (e : Entry) (l : List (Nat × Byte)) (r : LineResult) :
    (s.endReadPhase e l r).cfg = s.cfg ∧ (s.endReadPhase e l r).service = s.service ∧ (s.endReadPhase e l
    r).lastReset = s.lastReset ∧ (s.endReadPhase e l r).ports = s.ports ∧ (s.endReadPhase e l r).map = s.map ∧
    (s.endReadPhase e l r).spares = s.spares ∧ (s.endReadPhase e l r).engine = s.engine ∧ (s.endReadPhase e l
    r).memory = s.memory ∧ (s.endReadPhase e l r).scrub = s.scrub ∧ (s.endReadPhase e l r).microseconds =
    s.microseconds ∧ (s.endReadPhase e l r).link = s.link ∧ (s.endReadPhase e l r).resetPin = s.resetPin ∧
    (s.endReadPhase e l r).draws = s.draws ∧ (s.endReadPhase e l r).pending = s.pending := by
  simp only [State.endReadPhase]; (repeat' split) <;> simp

@[simp] theorem State.endEntry_frame (s : State) (e : Entry) (x : Ending) :
    (s.endEntry e x).cfg = s.cfg ∧ (s.endEntry e x).service = s.service ∧ (s.endEntry e x).lastReset = s.lastReset ∧
    (s.endEntry e x).ports = s.ports ∧ (s.endEntry e x).map = s.map ∧ (s.endEntry e x).spares = s.spares ∧
    (s.endEntry e x).engine = s.engine ∧ (s.endEntry e x).memory = s.memory ∧ (s.endEntry e x).scrub = s.scrub ∧
    (s.endEntry e x).microseconds = s.microseconds ∧ (s.endEntry e x).link = s.link ∧ (s.endEntry e x).resetPin =
    s.resetPin ∧ (s.endEntry e x).draws = s.draws ∧ (s.endEntry e x).pending = s.pending := by
  simp only [State.endEntry]; (repeat' split) <;> simp

@[simp] theorem State.endRepair_frame (s : State) (n : SlotNumber) (x : Ending) :
    (s.endRepair n x).cfg = s.cfg ∧ (s.endRepair n x).service = s.service ∧ (s.endRepair n x).lastReset =
    s.lastReset ∧ (s.endRepair n x).ports = s.ports ∧ (s.endRepair n x).tt = s.tt ∧ (s.endRepair n x).nextPosition =
    s.nextPosition ∧ (s.endRepair n x).suspects = s.suspects ∧ (s.endRepair n x).sparing = s.sparing ∧ (s.endRepair
    n x).map = s.map ∧ (s.endRepair n x).spares = s.spares ∧ (s.endRepair n x).engine = s.engine ∧ (s.endRepair n
    x).memory = s.memory ∧ (s.endRepair n x).scrub = s.scrub ∧ (s.endRepair n x).microseconds = s.microseconds ∧
    (s.endRepair n x).events = s.events ∧ (s.endRepair n x).link = s.link ∧ (s.endRepair n x).resetPin = s.resetPin
    ∧ (s.endRepair n x).out = s.out ∧ (s.endRepair n x).draws = s.draws ∧ (s.endRepair n x).pending = s.pending := by
  simp only [State.endRepair]; (repeat' split) <;> simp

@[simp] theorem State.endOperation_frame (s : State) (n : SlotNumber) (q : Requester) (x : Ending) :
    (s.endOperation n q x).cfg = s.cfg ∧ (s.endOperation n q x).service = s.service ∧ (s.endOperation n q
    x).lastReset = s.lastReset ∧ (s.endOperation n q x).ports = s.ports ∧ (s.endOperation n q x).memory = s.memory ∧
    (s.endOperation n q x).microseconds = s.microseconds ∧ (s.endOperation n q x).link = s.link ∧ (s.endOperation n
    q x).resetPin = s.resetPin ∧ (s.endOperation n q x).draws = s.draws ∧ (s.endOperation n q x).pending = s.pending := by
  unfold State.endOperation; cases q <;> simp; (repeat' split) <;> simp

@[simp] theorem State.completeBusy_frame (s : State) (n : SlotNumber) (k : OpKind) (l : Location) (q : Requester) (c : CompletionStatus) :
    (s.completeBusy n k l q c).cfg = s.cfg ∧ (s.completeBusy n k l q c).service = s.service ∧ (s.completeBusy n k l
    q c).lastReset = s.lastReset ∧ (s.completeBusy n k l q c).ports = s.ports ∧ (s.completeBusy n k l q
    c).microseconds = s.microseconds ∧ (s.completeBusy n k l q c).link = s.link ∧ (s.completeBusy n k l q
    c).resetPin = s.resetPin ∧ (s.completeBusy n k l q c).pending = s.pending := by
  simp only [State.completeBusy]; (repeat' split) <;> simp

@[simp] theorem State.complete_frame (s : State) (n : SlotNumber) (c : CompletionStatus) :
    (s.complete n c).cfg = s.cfg ∧ (s.complete n c).service = s.service ∧ (s.complete n c).lastReset = s.lastReset ∧
    (s.complete n c).ports = s.ports ∧ (s.complete n c).microseconds = s.microseconds ∧ (s.complete n c).link =
    s.link ∧ (s.complete n c).resetPin = s.resetPin ∧ (s.complete n c).pending = s.pending := by
  simp only [State.complete]; (repeat' split) <;> simp

@[simp] theorem State.expire_frame (s : State) (n : SlotNumber) :
    (s.expire n).cfg = s.cfg ∧ (s.expire n).service = s.service ∧ (s.expire n).lastReset = s.lastReset ∧ (s.expire
    n).ports = s.ports ∧ (s.expire n).microseconds = s.microseconds ∧ (s.expire n).link = s.link ∧ (s.expire
    n).resetPin = s.resetPin ∧ (s.expire n).draws = s.draws ∧ (s.expire n).pending = s.pending := by
  simp only [State.expire]; (repeat' split) <;> simp

@[simp] theorem State.expireIfDue_frame (s : State) (n : SlotNumber) :
    (s.expireIfDue n).cfg = s.cfg ∧ (s.expireIfDue n).service = s.service ∧ (s.expireIfDue n).lastReset =
    s.lastReset ∧ (s.expireIfDue n).ports = s.ports ∧ (s.expireIfDue n).microseconds = s.microseconds ∧
    (s.expireIfDue n).link = s.link ∧ (s.expireIfDue n).resetPin = s.resetPin ∧ (s.expireIfDue n).draws = s.draws ∧
    (s.expireIfDue n).pending = s.pending := by
  simp only [State.expireIfDue]; (repeat' split) <;> simp

@[simp] theorem State.expireAllDue_frame (s : State) :
    s.expireAllDue.cfg = s.cfg ∧ s.expireAllDue.service = s.service ∧ s.expireAllDue.lastReset = s.lastReset ∧
    s.expireAllDue.ports = s.ports ∧ s.expireAllDue.microseconds = s.microseconds ∧ s.expireAllDue.link = s.link ∧
    s.expireAllDue.resetPin = s.resetPin ∧ s.expireAllDue.draws = s.draws ∧ s.expireAllDue.pending = s.pending := by
  simp [State.expireAllDue, slotNumbers]

@[simp] theorem State.present_frame (s : State) (r : Request) :
    (s.present r).cfg = s.cfg ∧ (s.present r).service = s.service ∧ (s.present r).lastReset = s.lastReset ∧
    (s.present r).repairs = s.repairs ∧ (s.present r).suspects = s.suspects ∧ (s.present r).sparing = s.sparing ∧
    (s.present r).map = s.map ∧ (s.present r).spares = s.spares ∧ (s.present r).engine = s.engine ∧ (s.present
    r).memory = s.memory ∧ (s.present r).scrub = s.scrub ∧ (s.present r).microseconds = s.microseconds ∧ (s.present
    r).counters = s.counters ∧ (s.present r).link = s.link ∧ (s.present r).resetPin = s.resetPin ∧ (s.present
    r).draws = s.draws ∧ (s.present r).pending = s.pending := by
  simp only [State.present]; (repeat' split) <;> simp

@[simp] theorem State.retest_frame (s : State) (p : Port) :
    (s.retest p).cfg = s.cfg ∧ (s.retest p).service = s.service ∧ (s.retest p).lastReset = s.lastReset ∧ (s.retest
    p).repairs = s.repairs ∧ (s.retest p).suspects = s.suspects ∧ (s.retest p).sparing = s.sparing ∧ (s.retest
    p).map = s.map ∧ (s.retest p).spares = s.spares ∧ (s.retest p).engine = s.engine ∧ (s.retest p).memory =
    s.memory ∧ (s.retest p).scrub = s.scrub ∧ (s.retest p).microseconds = s.microseconds ∧ (s.retest p).counters =
    s.counters ∧ (s.retest p).link = s.link ∧ (s.retest p).resetPin = s.resetPin ∧ (s.retest p).draws = s.draws ∧
    (s.retest p).pending = s.pending := by
  simp only [State.retest]; (repeat' split) <;> simp

@[simp] theorem State.retestHeld_frame (s : State) :
    s.retestHeld.cfg = s.cfg ∧ s.retestHeld.service = s.service ∧ s.retestHeld.lastReset = s.lastReset ∧
    s.retestHeld.repairs = s.repairs ∧ s.retestHeld.suspects = s.suspects ∧ s.retestHeld.sparing = s.sparing ∧
    s.retestHeld.map = s.map ∧ s.retestHeld.spares = s.spares ∧ s.retestHeld.engine = s.engine ∧ s.retestHeld.memory
    = s.memory ∧ s.retestHeld.scrub = s.scrub ∧ s.retestHeld.microseconds = s.microseconds ∧ s.retestHeld.counters =
    s.counters ∧ s.retestHeld.link = s.link ∧ s.retestHeld.resetPin = s.resetPin ∧ s.retestHeld.pending = s.pending := by
  unfold State.retestHeld; (repeat' split) <;> simp

@[simp] theorem State.recordIssue_frame (s : State) (c : Candidate) (n : SlotNumber) :
    (s.recordIssue c n).cfg = s.cfg ∧ (s.recordIssue c n).service = s.service ∧ (s.recordIssue c n).lastReset =
    s.lastReset ∧ (s.recordIssue c n).ports = s.ports ∧ (s.recordIssue c n).nextPosition = s.nextPosition ∧
    (s.recordIssue c n).suspects = s.suspects ∧ (s.recordIssue c n).sparing = s.sparing ∧ (s.recordIssue c n).map =
    s.map ∧ (s.recordIssue c n).spares = s.spares ∧ (s.recordIssue c n).memory = s.memory ∧ (s.recordIssue c
    n).microseconds = s.microseconds ∧ (s.recordIssue c n).events = s.events ∧ (s.recordIssue c n).counters =
    s.counters ∧ (s.recordIssue c n).link = s.link ∧ (s.recordIssue c n).resetPin = s.resetPin ∧ (s.recordIssue c
    n).out = s.out ∧ (s.recordIssue c n).draws = s.draws ∧ (s.recordIssue c n).pending = s.pending := by
  simp only [State.recordIssue]; (repeat' split) <;> simp

@[simp] theorem State.grantTo_frame (s : State) (c : Candidate) (n : SlotNumber) :
    (s.grantTo c n).cfg = s.cfg ∧ (s.grantTo c n).service = s.service ∧ (s.grantTo c n).lastReset = s.lastReset ∧
    (s.grantTo c n).ports = s.ports ∧ (s.grantTo c n).nextPosition = s.nextPosition ∧ (s.grantTo c n).suspects =
    s.suspects ∧ (s.grantTo c n).sparing = s.sparing ∧ (s.grantTo c n).map = s.map ∧ (s.grantTo c n).spares =
    s.spares ∧ (s.grantTo c n).microseconds = s.microseconds ∧ (s.grantTo c n).events = s.events ∧ (s.grantTo c
    n).counters = s.counters ∧ (s.grantTo c n).link = s.link ∧ (s.grantTo c n).resetPin = s.resetPin ∧ (s.grantTo c
    n).draws = s.draws ∧ (s.grantTo c n).pending = s.pending := by
  simp [State.grantTo]

@[simp] theorem State.grantIfPossible_frame (s : State) (b : Bool) :
    (s.grantIfPossible b).cfg = s.cfg ∧ (s.grantIfPossible b).service = s.service ∧ (s.grantIfPossible b).lastReset
    = s.lastReset ∧ (s.grantIfPossible b).ports = s.ports ∧ (s.grantIfPossible b).nextPosition = s.nextPosition ∧
    (s.grantIfPossible b).suspects = s.suspects ∧ (s.grantIfPossible b).sparing = s.sparing ∧ (s.grantIfPossible
    b).map = s.map ∧ (s.grantIfPossible b).spares = s.spares ∧ (s.grantIfPossible b).microseconds = s.microseconds ∧
    (s.grantIfPossible b).events = s.events ∧ (s.grantIfPossible b).counters = s.counters ∧ (s.grantIfPossible
    b).link = s.link ∧ (s.grantIfPossible b).resetPin = s.resetPin ∧ (s.grantIfPossible b).draws = s.draws ∧
    (s.grantIfPossible b).pending = s.pending := by
  simp only [State.grantIfPossible]; (repeat' split) <;> simp

@[simp] theorem State.abandonScrub_frame (s : State) :
    s.abandonScrub.cfg = s.cfg ∧ s.abandonScrub.service = s.service ∧ s.abandonScrub.lastReset = s.lastReset ∧
    s.abandonScrub.ports = s.ports ∧ s.abandonScrub.tt = s.tt ∧ s.abandonScrub.nextPosition = s.nextPosition ∧
    s.abandonScrub.repairs = s.repairs ∧ s.abandonScrub.suspects = s.suspects ∧ s.abandonScrub.sparing = s.sparing ∧
    s.abandonScrub.map = s.map ∧ s.abandonScrub.spares = s.spares ∧ s.abandonScrub.engine = s.engine ∧
    s.abandonScrub.microseconds = s.microseconds ∧ s.abandonScrub.events = s.events ∧ s.abandonScrub.counters =
    s.counters ∧ s.abandonScrub.link = s.link ∧ s.abandonScrub.resetPin = s.resetPin ∧ s.abandonScrub.out = s.out ∧
    s.abandonScrub.draws = s.draws ∧ s.abandonScrub.pending = s.pending := by
  simp only [State.abandonScrub]; (repeat' split) <;> simp

@[simp] theorem State.stopScrub_frame (s : State) :
    s.stopScrub.cfg = s.cfg ∧ s.stopScrub.service = s.service ∧ s.stopScrub.lastReset = s.lastReset ∧
    s.stopScrub.ports = s.ports ∧ s.stopScrub.tt = s.tt ∧ s.stopScrub.nextPosition = s.nextPosition ∧
    s.stopScrub.repairs = s.repairs ∧ s.stopScrub.suspects = s.suspects ∧ s.stopScrub.sparing = s.sparing ∧
    s.stopScrub.map = s.map ∧ s.stopScrub.spares = s.spares ∧ s.stopScrub.engine = s.engine ∧ s.stopScrub.memory =
    s.memory ∧ s.stopScrub.microseconds = s.microseconds ∧ s.stopScrub.events = s.events ∧ s.stopScrub.counters =
    s.counters ∧ s.stopScrub.link = s.link ∧ s.stopScrub.resetPin = s.resetPin ∧ s.stopScrub.out = s.out ∧
    s.stopScrub.draws = s.draws ∧ s.stopScrub.pending = s.pending := by
  simp only [State.stopScrub]; (repeat' split) <;> simp

@[simp] theorem State.drainResult_frame (s : State) (c : DrainCommand) (b : Byte) :
    (s.drainResult c b).cfg = s.cfg ∧ (s.drainResult c b).service = s.service ∧ (s.drainResult c b).lastReset =
    s.lastReset ∧ (s.drainResult c b).ports = s.ports ∧ (s.drainResult c b).tt = s.tt ∧ (s.drainResult c
    b).nextPosition = s.nextPosition ∧ (s.drainResult c b).repairs = s.repairs ∧ (s.drainResult c b).suspects =
    s.suspects ∧ (s.drainResult c b).sparing = s.sparing ∧ (s.drainResult c b).map = s.map ∧ (s.drainResult c
    b).spares = s.spares ∧ (s.drainResult c b).engine = s.engine ∧ (s.drainResult c b).memory = s.memory ∧
    (s.drainResult c b).scrub = s.scrub ∧ (s.drainResult c b).microseconds = s.microseconds ∧ (s.drainResult c
    b).events = s.events ∧ (s.drainResult c b).counters = s.counters ∧ (s.drainResult c b).resetPin = s.resetPin ∧
    (s.drainResult c b).out = s.out ∧ (s.drainResult c b).draws = s.draws ∧ (s.drainResult c b).pending = s.pending := by
  simp only [State.drainResult]; (repeat' split) <;> simp

@[simp] theorem State.startAction_frame (s : State) :
    s.startAction.cfg = s.cfg ∧ s.startAction.lastReset = s.lastReset ∧ s.startAction.suspects = s.suspects ∧
    s.startAction.memory = s.memory ∧ s.startAction.microseconds = s.microseconds ∧ s.startAction.counters =
    s.counters ∧ s.startAction.link = s.link ∧ s.startAction.resetPin = s.resetPin ∧ s.startAction.pending =
    s.pending := by
  simp [State.startAction]

@[simp] theorem State.completeStop_frame (s : State) :
    s.completeStop.cfg = s.cfg ∧ s.completeStop.lastReset = s.lastReset ∧ s.completeStop.repairs = s.repairs ∧
    s.completeStop.suspects = s.suspects ∧ s.completeStop.sparing = s.sparing ∧ s.completeStop.map = s.map ∧
    s.completeStop.spares = s.spares ∧ s.completeStop.engine = s.engine ∧ s.completeStop.memory = s.memory ∧
    s.completeStop.scrub = s.scrub ∧ s.completeStop.microseconds = s.microseconds ∧ s.completeStop.counters =
    s.counters ∧ s.completeStop.resetPin = s.resetPin ∧ s.completeStop.pending = s.pending := by
  simp [State.completeStop]

@[simp] theorem State.completeStopIfDue_frame (s : State) :
    s.completeStopIfDue.cfg = s.cfg ∧ s.completeStopIfDue.lastReset = s.lastReset ∧ s.completeStopIfDue.repairs =
    s.repairs ∧ s.completeStopIfDue.suspects = s.suspects ∧ s.completeStopIfDue.sparing = s.sparing ∧
    s.completeStopIfDue.map = s.map ∧ s.completeStopIfDue.spares = s.spares ∧ s.completeStopIfDue.engine = s.engine
    ∧ s.completeStopIfDue.memory = s.memory ∧ s.completeStopIfDue.scrub = s.scrub ∧ s.completeStopIfDue.microseconds
    = s.microseconds ∧ s.completeStopIfDue.counters = s.counters ∧ s.completeStopIfDue.resetPin = s.resetPin ∧
    s.completeStopIfDue.pending = s.pending := by
  simp only [State.completeStopIfDue]; (repeat' split) <;> simp

@[simp] theorem State.stopAction_frame (s : State) (u : Bool) :
    (s.stopAction u).cfg = s.cfg ∧ (s.stopAction u).lastReset = s.lastReset ∧ (s.stopAction u).repairs = s.repairs ∧
    (s.stopAction u).suspects = s.suspects ∧ (s.stopAction u).sparing = s.sparing ∧ (s.stopAction u).map = s.map ∧
    (s.stopAction u).spares = s.spares ∧ (s.stopAction u).engine = s.engine ∧ (s.stopAction u).memory = s.memory ∧
    (s.stopAction u).microseconds = s.microseconds ∧ (s.stopAction u).counters = s.counters ∧ (s.stopAction
    u).resetPin = s.resetPin ∧ (s.stopAction u).pending = s.pending := by
  simp [State.stopAction]

@[simp] theorem State.beginRestart_frame (s : State) :
    s.beginRestart.cfg = s.cfg ∧ s.beginRestart.lastReset = s.lastReset ∧ s.beginRestart.ports = s.ports ∧
    s.beginRestart.nextPosition = s.nextPosition ∧ s.beginRestart.suspects = s.suspects ∧ s.beginRestart.sparing =
    s.sparing ∧ s.beginRestart.microseconds = s.microseconds ∧ s.beginRestart.events = s.events ∧
    s.beginRestart.counters = s.counters ∧ s.beginRestart.link = s.link ∧ s.beginRestart.resetPin = s.resetPin ∧
    s.beginRestart.pending = s.pending := by
  simp [State.beginRestart]

@[simp] theorem State.completeRestart_frame (s : State) :
    s.completeRestart.cfg = s.cfg ∧ s.completeRestart.repairs = s.repairs ∧ s.completeRestart.map = s.map ∧
    s.completeRestart.spares = s.spares ∧ s.completeRestart.engine = s.engine ∧ s.completeRestart.memory = s.memory
    ∧ s.completeRestart.microseconds = s.microseconds ∧ s.completeRestart.counters = s.counters ∧
    s.completeRestart.resetPin = s.resetPin ∧ s.completeRestart.pending = s.pending := by
  simp [State.completeRestart]

@[simp] theorem State.completeRestartIfDue_frame (s : State) :
    s.completeRestartIfDue.cfg = s.cfg ∧ s.completeRestartIfDue.repairs = s.repairs ∧ s.completeRestartIfDue.map =
    s.map ∧ s.completeRestartIfDue.spares = s.spares ∧ s.completeRestartIfDue.engine = s.engine ∧
    s.completeRestartIfDue.memory = s.memory ∧ s.completeRestartIfDue.microseconds = s.microseconds ∧
    s.completeRestartIfDue.counters = s.counters ∧ s.completeRestartIfDue.resetPin = s.resetPin ∧
    s.completeRestartIfDue.pending = s.pending := by
  simp only [State.completeRestartIfDue]; (repeat' split) <;> simp

@[simp] theorem State.restartAction_frame (s : State) (u : Bool) :
    (s.restartAction u).cfg = s.cfg ∧ (s.restartAction u).microseconds = s.microseconds ∧ (s.restartAction
    u).counters = s.counters ∧ (s.restartAction u).resetPin = s.resetPin ∧ (s.restartAction u).pending = s.pending := by
  simp [State.restartAction]

@[simp] theorem State.tickSlots_frame (s : State) :
    s.tickSlots.cfg = s.cfg ∧ s.tickSlots.service = s.service ∧ s.tickSlots.lastReset = s.lastReset ∧
    s.tickSlots.ports = s.ports ∧ s.tickSlots.tt = s.tt ∧ s.tickSlots.nextPosition = s.nextPosition ∧
    s.tickSlots.repairs = s.repairs ∧ s.tickSlots.suspects = s.suspects ∧ s.tickSlots.sparing = s.sparing ∧
    s.tickSlots.map = s.map ∧ s.tickSlots.spares = s.spares ∧ s.tickSlots.engine = s.engine ∧ s.tickSlots.scrub =
    s.scrub ∧ s.tickSlots.microseconds = s.microseconds ∧ s.tickSlots.events = s.events ∧ s.tickSlots.counters =
    s.counters ∧ s.tickSlots.link = s.link ∧ s.tickSlots.resetPin = s.resetPin ∧ s.tickSlots.out = s.out ∧
    s.tickSlots.draws = s.draws ∧ s.tickSlots.pending = s.pending := by
  simp only [State.tickSlots]; (repeat' split) <;> simp

@[simp] theorem State.tickCountdown_frame (s : State) :
    s.tickCountdown.cfg = s.cfg ∧ s.tickCountdown.service = s.service ∧ s.tickCountdown.lastReset = s.lastReset ∧
    s.tickCountdown.ports = s.ports ∧ s.tickCountdown.tt = s.tt ∧ s.tickCountdown.nextPosition = s.nextPosition ∧
    s.tickCountdown.repairs = s.repairs ∧ s.tickCountdown.suspects = s.suspects ∧ s.tickCountdown.sparing =
    s.sparing ∧ s.tickCountdown.map = s.map ∧ s.tickCountdown.spares = s.spares ∧ s.tickCountdown.engine = s.engine
    ∧ s.tickCountdown.memory = s.memory ∧ s.tickCountdown.microseconds = s.microseconds ∧ s.tickCountdown.events =
    s.events ∧ s.tickCountdown.counters = s.counters ∧ s.tickCountdown.link = s.link ∧ s.tickCountdown.resetPin =
    s.resetPin ∧ s.tickCountdown.out = s.out ∧ s.tickCountdown.draws = s.draws ∧ s.tickCountdown.pending = s.pending := by
  simp only [State.tickCountdown]; (repeat' split) <;> simp

@[simp] theorem State.emitTick_frame (s : State) :
    s.emitTick.cfg = s.cfg ∧ s.emitTick.service = s.service ∧ s.emitTick.lastReset = s.lastReset ∧ s.emitTick.ports
    = s.ports ∧ s.emitTick.tt = s.tt ∧ s.emitTick.nextPosition = s.nextPosition ∧ s.emitTick.repairs = s.repairs ∧
    s.emitTick.suspects = s.suspects ∧ s.emitTick.sparing = s.sparing ∧ s.emitTick.map = s.map ∧ s.emitTick.spares =
    s.spares ∧ s.emitTick.engine = s.engine ∧ s.emitTick.events = s.events ∧ s.emitTick.counters = s.counters ∧
    s.emitTick.link = s.link ∧ s.emitTick.resetPin = s.resetPin ∧ s.emitTick.out = s.out ∧ s.emitTick.draws =
    s.draws ∧ s.emitTick.pending = s.pending := by
  simp [State.emitTick]

@[simp] theorem State.takesDue_frame (s : State) (n : Nat) :
    (s.takesDue n).cfg = s.cfg ∧ (s.takesDue n).service = s.service ∧ (s.takesDue n).lastReset = s.lastReset ∧
    (s.takesDue n).ports = s.ports ∧ (s.takesDue n).nextPosition = s.nextPosition ∧ (s.takesDue n).suspects =
    s.suspects ∧ (s.takesDue n).memory = s.memory ∧ (s.takesDue n).scrub = s.scrub ∧ (s.takesDue n).microseconds =
    s.microseconds ∧ (s.takesDue n).counters = s.counters ∧ (s.takesDue n).link = s.link ∧ (s.takesDue n).resetPin =
    s.resetPin ∧ (s.takesDue n).out = s.out ∧ (s.takesDue n).draws = s.draws ∧ (s.takesDue n).pending = s.pending := by
  induction n generalizing s with
  | zero => simp [State.takesDue]
  | succ n ih => simp [State.takesDue, ih]

@[simp] theorem State.settleDue_frame (s : State) :
    s.settleDue.cfg = s.cfg ∧ s.settleDue.microseconds = s.microseconds ∧ s.settleDue.resetPin = s.resetPin ∧
    s.settleDue.pending = s.pending := by
  unfold State.settleDue; simp only []; split <;> simp

@[simp] theorem State.microsecond_frame (s : State) :
    s.microsecond.cfg = s.cfg ∧ s.microsecond.resetPin = s.resetPin ∧ s.microsecond.pending = s.pending := by
  simp only [State.microsecond, State.unlessReset]; (repeat' split) <;> simp

@[simp] theorem State.resultFrame_frame (s : State) (n : Nat) :
    (s.resultFrame n).cfg = s.cfg ∧ (s.resultFrame n).service = s.service ∧ (s.resultFrame n).lastReset =
    s.lastReset ∧ (s.resultFrame n).ports = s.ports ∧ (s.resultFrame n).tt = s.tt ∧ (s.resultFrame n).nextPosition =
    s.nextPosition ∧ (s.resultFrame n).repairs = s.repairs ∧ (s.resultFrame n).suspects = s.suspects ∧
    (s.resultFrame n).sparing = s.sparing ∧ (s.resultFrame n).map = s.map ∧ (s.resultFrame n).spares = s.spares ∧
    (s.resultFrame n).engine = s.engine ∧ (s.resultFrame n).memory = s.memory ∧ (s.resultFrame n).scrub = s.scrub ∧
    (s.resultFrame n).microseconds = s.microseconds ∧ (s.resultFrame n).events = s.events ∧ (s.resultFrame
    n).counters = s.counters ∧ (s.resultFrame n).resetPin = s.resetPin ∧ (s.resultFrame n).draws = s.draws ∧
    (s.resultFrame n).pending = s.pending := by
  simp only [State.resultFrame]; (repeat' split) <;> simp

@[simp] theorem State.restartWhileExecuting_frame (s : State) (c : DrainCommand) :
    (s.restartWhileExecuting c).cfg = s.cfg ∧ (s.restartWhileExecuting c).microseconds = s.microseconds ∧
    (s.restartWhileExecuting c).counters = s.counters ∧ (s.restartWhileExecuting c).resetPin = s.resetPin ∧
    (s.restartWhileExecuting c).pending = s.pending := by
  cases c <;> simp [State.restartWhileExecuting]

end Sys2Proof.Machine
end

