-- ==== Sys2Proof/Laws/Link.lean ====
section
/-! SUPPORT. The management link: what taking a COMMAND frame comes to by the state of the command slot (R189), and
the CRC of a frame. -/

namespace Sys2Proof.Machine

@[simp] theorem State.framed_link (s : State) (n : Nat) : (s.framed n).link = s.link := rfl

theorem State.quiet_zeroMiso (s : State) (n : Nat) : s.quiet.zeroMiso n = s.framed n := rfl

theorem State.hold_eq_result (s : State) (code : Byte) (status : Status) (bytes : List Byte) :
    s.hold code status bytes s.link.slot.isReady = s.result code status bytes := rfl

/-- R189 tests 3 to 6: in EMPTY and RESULT_READY the frame is taken; a held result is discarded. -/
theorem settleFrame_taken (k : FrameKind) (s : State) (h : s.link.slot.isExecuting = false) :
    settleFrame k s = settleTaken k s.link.slot.isReady s := by
  unfold settleFrame
  cases hs : s.link.slot with
  | empty => rfl
  | executing d b => simp [hs, CommandSlot.isExecuting] at h
  | ready r => rfl

/-- R185: out of reset a frame that began after the last reset is taken. -/
theorem State.frameEnds_taken (s : State) (n : Nat) (take : State → State) (h : TakesFrames s) :
    s.frameEnds n take = take s.quiet := by
  simp [State.frameEnds, h.1, h.2]

/-- R185: while RESET_N is asserted no frame is taken. -/
theorem State.frameEnds_inReset (s : State) (n : Nat) (take : State → State) (h : s.resetPin.asserted = true) :
    s.frameEnds n take = s.framed n := by
  simp only [State.frameEnds, h, if_true]
  rfl

/-- R185: the frame that was in progress as the reset ended is not taken, and the next one is. -/
theorem State.frameEnds_open (s : State) (n : Nat) (take : State → State) (h : OutOfReset s)
    (ho : s.resetPin.openFrame = true) :
    s.frameEnds n take = { s.framed n with resetPin := ⟨false, false⟩ } := by
  simp only [State.frameEnds, show s.resetPin.asserted = false from h, ho, if_true]
  rfl

/-- R189 test 6: a named command is executed on the state its frame leaves. -/
theorem takeCommand_executed (c : LinkCommand) (s : State) (h : TakesCommands s) :
    takeCommand c s = runCommand c s.link.slot.isReady (s.framed c.frame.length) := by
  unfold takeCommand
  rw [State.frameEnds_taken _ _ _ h.1, settleFrame_taken _ _ (by simpa using h.2)]
  rfl

/-- R189 test 1: while the slot is EXECUTING another frame sets the overrun mark alone. -/
theorem settleFrame_ignored (k : FrameKind) (s : State) (d : DrainCommand) (b : Bool)
    (h : s.link.slot = .executing d b) (hk : k ≠ .command .restart) : settleFrame k s = s.ignoreFrame := by
  simp [settleFrame, h, hk]

/-- R189 test 2: RESTART is taken while the slot is EXECUTING. -/
theorem settleFrame_restart (s : State) (d : DrainCommand) (b : Bool) (h : s.link.slot = .executing d b) :
    settleFrame (.command .restart) s = s.restartWhileExecuting d := by
  simp [settleFrame, h]

/-- R187: a byte equal to the CRC so far takes it to 0. -/
theorem crcByte_self (c : Byte) : crcByte c c = 0 := by
  simp [crcByte, crcBit]

theorem crc8_append (l : List Byte) (b : Byte) : crc8 (l ++ [b]) = crcByte (crc8 l) b := by
  simp [crc8]

/-- R187: the CRC over the bytes and their CRC is 0. -/
theorem crc8_residue (l : List Byte) : crc8 (l ++ [crc8 l]) = 0 := by
  rw [crc8_append, crcByte_self]

/-- R194: a 4-byte number is read as it was sent. -/
theorem word4_bytes4 (v : BitVec 32) :
    word4 (v.extractLsb' 24 8) (v.extractLsb' 16 8) (v.extractLsb' 8 8) (v.extractLsb' 0 8) = v := by
  apply BitVec.eq_of_getLsbD_eq
  intro i hi
  simp only [word4, BitVec.getLsbD_append, BitVec.getLsbD_extractLsb']
  by_cases h1 : i < 8
  · simp [h1]
  · by_cases h2 : i < 16
    · have : i - 8 < 8 := by omega
      simp [h1, this, show 8 + (i - 8) = i by omega]
    · by_cases h3 : i < 24
      · have h4 : ¬ i - 8 < 8 := by omega
        have : i - 8 - 8 < 8 := by omega
        simp [h1, h4, this, show 16 + (i - 8 - 8) = i by omega]
      · have h4 : ¬ i - 8 < 8 := by omega
        have h5 : ¬ i - 8 - 8 < 8 := by omega
        have : i - 8 - 8 - 8 < 8 := by omega
        simp [h1, h4, h5, this, show 24 + (i - 8 - 8 - 8) = i by omega]

end Sys2Proof.Machine
end

