-- ==== Sys2Proof/Laws/Operations.lean ====
section
/-! SUPPORT. What the shared operations do, in the words of the statements: the looking again, the counters, the end
of QUIESCE, the hazard rule, held requests, and the events and counters of a read. -/

namespace Sys2Proof.Machine

theorem LinkCommand.frame_length (c : LinkCommand) : c.frame.length = c.args.length + 3 := by
  simp [LinkCommand.frame]

/-! ## RESET_N -/

theorem State.unlessReset_out (s : State) (act : State → State) (h : OutOfReset s) :
    s.unlessReset act = act s.quiet := by
  simp [State.unlessReset, show s.resetPin.asserted = false from h]

theorem State.unlessReset_asserted (s : State) (act : State → State) (h : s.resetPin.asserted = true) :
    s.unlessReset act = s.quiet := by
  simp [State.unlessReset, h]

/-- R21, R23, R39: the requests that are presented as a reset ends are held, as in any HALTED bridge under STALL. -/
theorem retestHeld_atDefault (s : State) (pin : ResetPin) (h : HeldLaw s) :
    ∃ d, (s.atDefault pin).retestHeld = { s.atDefault pin with draws := d } := by
  obtain ⟨h₀, h₁⟩ := h
  rcases s with ⟨_, _, _, ⟨_ | ⟨p, _, _, _, _⟩, _ | ⟨q, _, _, _, _⟩⟩, _, _, _, _, _, _, _, _, _, _, _, _, _, _, _, _,
    _, _⟩
  · exact ⟨_, rfl⟩
  · obtain rfl : q = .u1 := h₁ _ rfl
    exact ⟨_, rfl⟩
  · obtain rfl : p = .u0 := h₀ _ rfl
    exact ⟨_, rfl⟩
  · obtain rfl : q = .u1 := h₁ _ rfl
    obtain rfl : p = .u0 := h₀ _ rfl
    simp only [State.atDefault, State.retestHeld]
    cases Config.freeFirstPort _ <;> exact ⟨_, rfl⟩

/-! ## Looking again (R30) -/

theorem unphased_map_phase (f : Entry → Phase) (l : List Entry) :
    (l.map fun e => { e with phase := f e }).map Entry.unphased = l.map Entry.unphased := by
  simp [Entry.unphased, Function.comp_def]

/-- Looking again changes phases alone. -/
theorem relook_sameButPhases (s : State) : SameButPhases s.relook.tt s.tt := unphased_map_phase _ _

/-- What is said of every entry's phase after looking again is said of `phaseNow`. -/
theorem mem_relook (s : State) (e : Entry) :
    e ∈ s.relook.tt ↔ ∃ x ∈ s.tt, e = { x with phase := s.phaseNow x } := by
  simp [State.relook, eq_comm]

/-- R34: the test the operations make is the condition the statements name. -/
theorem held_iff_heldByHazard (s : State) (e : Entry) : s.held e = true ↔ HeldByHazard s e := by
  cases h : e.op.isWrite <;>
    cases hr : s.scrub.read <;>
      simp [State.held, HeldByHazard, Entry.isWrite, State.hazardA, State.hazardB, State.hazardC, h, hr, or_assoc,
        and_assoc]

/-! ## Counters and the end of QUIESCE -/

theorem saturatingNext_eq_advanced (c : BitVec 32) : saturatingNext c = advanced c true := by
  unfold saturatingNext advanced
  by_cases h : c = BitVec.allOnes 32 <;> simp [h]

@[simp] theorem advanced_false (c : BitVec 32) : advanced c false = c := by simp [advanced]

/-- The end of QUIESCE changes the engine alone. -/
theorem quiesceEnd_eq (s : State) : s.quiesceEnd = { s with engine := s.quiesceEnd.engine } := by
  unfold State.quiesceEnd
  cases s.engine with
  | quiesce m => by_cases h : s.lineBusy m.home = true <;> simp [h]
  | _ => rfl

theorem isIssued_phaseNow (s : State) (e : Entry) :
    ({ e with phase := s.phaseNow e } : Entry).isIssued = e.isIssued := by
  unfold State.phaseNow
  split_ifs with h
  · rfl
  all_goals
    rw [Bool.eq_false_iff.2 h]
    rfl

/-- Looking again issues nothing and ends nothing, so the same lines are BUSY. -/
theorem relook_lineBusy (s : State) (h : Nat) : s.relook.lineBusy h = s.lineBusy h := by
  simp [State.lineBusy, State.relook, List.any_map, Function.comp_def, isIssued_phaseNow]

/-- R111: the end of every operation ends QUIESCE exactly when the engine's line is quiet. -/
theorem quiesceEnd_relook (s : State) : QuiesceEnds s.engine s.quiesceEnd.relook := by
  have hb (h : Nat) : s.quiesceEnd.relook.lineBusy h = s.lineBusy h := by
    rw [relook_lineBusy, quiesceEnd_eq]
    rfl
  refine ⟨fun m hm => ?_, fun h => ?_⟩
  · rw [hb]
    simp only [State.relook, State.quiesceEnd, hm]
    split_ifs with hl
    · exact hm
    · rfl
  · simp only [State.relook, State.quiesceEnd]
    cases he : s.engine with
    | quiesce m => exact absurd he (h m)
    | _ => simp [he]

theorem retestHeld_of_noneHeld (s : State) (h : NoneHeld s) : s.retestHeld = s := by
  unfold State.retestHeld
  rw [show s.ports = ⟨none, none⟩ from h]

theorem busySlots_eq_zero_iff (s : State) :
    s.busySlots = 0 ↔ ∀ n : SlotNumber, s.memory.slots[n].isBusy = false := by
  unfold State.busySlots
  rw [List.countP_eq_zero]
  constructor
  · intro h n
    have := h n (by fin_cases n <;> decide)
    simpa using this
  · intro h n _
    simpa using h n

/-! ## The oldest of a list (R133, R134) -/

theorem oldest_spec (l : List Entry) : ∀ e, oldest l = some e → e ∈ l ∧ ∀ x ∈ l, e.position ≤ x.position := by
  induction l with
  | nil => simp [oldest]
  | cons a l ih =>
    intro e h
    cases ho : oldest l with
    | none =>
      cases l with
      | nil => simp_all [oldest]
      | cons b l =>
        simp only [oldest] at ho
        split at ho
        · cases ho
        · split at ho <;> cases ho
    | some o =>
      obtain ⟨hm, hle⟩ := ih o ho
      simp only [oldest, ho] at h
      split at h
      all_goals
        cases h
        refine ⟨by simp [hm], fun x hx => ?_⟩
        rcases List.mem_cons.1 hx with rfl | hx
        · omega
        · have := hle x hx
          omega

/-! ## Chunks by class -/

theorem mem_chunkNumbers (c : ChunkNumber) : c ∈ chunkNumbers := by fin_cases c <;> decide

theorem correctedChunks_eq_nil (r : LineResult) :
    correctedChunks r = [] ↔ ∀ (c : ChunkNumber) (d : ChunkData), r[c] ≠ .corrected d := by
  simp only [correctedChunks, List.filter_eq_nil_iff, mem_chunkNumbers, true_implies]
  refine forall_congr' fun c => ?_
  cases r[c] <;> simp [ChunkResult.isCorrected]

theorem uncorrectableChunks_eq_nil (r : LineResult) :
    uncorrectableChunks r = [] ↔ ∀ c : ChunkNumber, r[c] ≠ .uncorrectable := by
  simp only [uncorrectableChunks, List.filter_eq_nil_iff, mem_chunkNumbers, true_implies]
  refine forall_congr' fun c => ?_
  cases r[c] <;> simp [ChunkResult.isUncorrectable]

/-! ## The events and counters of a read (R47) -/

theorem EventQueue.offers_append (q : EventQueue) (mask : BitVec 16) (a b : List Event) :
    q.offers mask (a ++ b) = (q.offers mask a).offers mask b := by
  simp [EventQueue.offers, List.foldl_append]

/-- The report of a read is its events in order and one advance of a counter for each set that is not empty. -/
theorem reportRead_eq (s : State) (src : ReadSource) (r : LineResult) (poisoned : List ChunkNumber) :
    s.reportRead src r poisoned = { s with
      events := s.events.offers s.cfg.eventMask (readEvents src.origin src.tag src.location r poisoned)
      counters := { s.counters with
        correctedReads := advanced s.counters.correctedReads (correctedChunks r ≠ [])
        uncorrectableReads := advanced s.counters.uncorrectableReads (uncorrectableChunks r ≠ [])
        poisonReads := advanced s.counters.poisonReads (poisoned ≠ []) } } := by
  unfold State.reportRead readEvents State.reportChunks
  rcases h₁ : correctedChunks r with _ | ⟨a, as⟩ <;> rcases h₂ : uncorrectableChunks r with _ | ⟨b, bs⟩ <;>
    rcases poisoned with _ | ⟨c, cs⟩ <;>
    simp [State.offer, State.bump, Counters.bump, saturatingNext_eq_advanced, EventQueue.offers]

end Sys2Proof.Machine
end

