-- ==== Sys2Proof/Tests/Slice0.lean ====
section
/-! SUPPORT. Small tests of the model: ill-formed commands, the spec's tables and examples, and for every statement
with hypotheses a concrete state and operands that meet them (`test_meets_<statement>`). -/

namespace Sys2Proof.Tests

open Sys2Proof.Machine

/-- The next state of a command; every command has one. -/
def after (i : Instr) (s : State) : State :=
  match exec i s with
  | .next t => t
  | .fault _ => s
  | .refused _ => s

/-! ## Well-formedness: an ill-formed term for each check -/

theorem test_ill_formed_byte_enables :
    (Instr.presentedRequest ⟨.u0, 0, 0, 8, .write [(1, 0), (1, 0)]⟩).wellFormed = false ∧
    (Instr.presentedRequest ⟨.u0, 0, 0, 8, .write [(2, 0), (1, 0)]⟩).wellFormed = false ∧
    (Instr.presentedRequest ⟨.u0, 0, 0, 8, .write [(1, 0), (2, 0)]⟩).wellFormed = true := by decide +kernel

theorem test_ill_formed_badCheck :
    (Instr.badCheck [0x01, 0x00, 0x15]).wellFormed = false ∧ (Instr.badCheck []).wellFormed = false ∧
    (Instr.badCheck [0x01, 0x00, 0x14]).wellFormed = true := by decide +kernel

theorem test_ill_formed_unknown :
    (Instr.unknown [0x01, 0x00, 0x15]).wellFormed = false ∧
    (Instr.unknown [0x03, 0x00, crc8 [0x03, 0x00]]).wellFormed = true := by decide +kernel

theorem test_ill_formed_overrun :
    (Instr.overrun [0x22, 0x00, 0x84]).wellFormed = false ∧ (Instr.overrun [0x7E]).wellFormed = false ∧
    (Instr.overrun []).wellFormed = false ∧ (Instr.overrun [0x21, 0x00, 0xBB]).wellFormed = true := by decide +kernel

theorem test_ill_formed_resultFrame :
    (Instr.resultFrame 0).wellFormed = false ∧ (Instr.resultFrame 1).wellFormed = true := by decide +kernel

theorem test_ill_formed_badArgumentLength :
    (Instr.badArgumentLength [0x20, 0x00, 0xAE]).wellFormed = false ∧
    (Instr.badArgumentLength [0x20, 0x01, 0x00, crc8 [0x20, 0x01, 0x00]]).wellFormed = true := by decide +kernel

/-! ## The words of the spec -/

/-- The example frames of 11.1.1. -/
theorem test_example_frames :
    LinkCommand.readIdentity.frame = [0x01, 0x00, 0x15] ∧ LinkCommand.start.frame = [0x20, 0x00, 0xAE] ∧
    LinkCommand.stop.frame = [0x21, 0x00, 0xBB] ∧ LinkCommand.restart.frame = [0x22, 0x00, 0x84] := by decide +kernel

theorem test_no_row_gives_bits (nbits w : Nat) :
    decodeTableWord nbits w = none ∧ State.reset.withFetchWord nbits w = State.reset := ⟨rfl, rfl⟩

/-- R3: bytes 4 to 19 lie in chunks 0, 1 and 2; chunk 1 alone is fully covered. -/
theorem test_covered_chunks :
    requestedChunks 4 16 = [0, 1, 2] ∧
    partlyCoveredChunks 4 ((List.range 16).map fun i => (i, 0x11)) = [0, 2] ∧
    writeClass 4 ((List.range 16).map fun i => (i, 0x11)) = .partialWrite ∧
    writeClass 8 ((List.range 8).map fun i => (i, 0x11)) = .full := by decide +kernel

/-- R4: 2^24 installed lines and 64 spare lines. -/
theorem test_line_space :
    State.reset.visibleLines = 16777152 ∧ State.reset.physicalLine (.spare 63) = 16777215 := by decide +kernel

/-! ## States for the witnesses -/

/-- The bridge after START, nothing presented. -/
def running : State := { State.reset with service := .running, link := ⟨.ready ⟨0x20, .ok, [], false⟩, false⟩ }

def readEntry : Entry := ⟨.u0, 3, .read, 5, 0, 16, 0, .issued, some 0, some (.home 5), none⟩

/-- Its one byte leaves chunk 0 partly covered. -/
def partialEntry : Entry :=
  ⟨.u1, 4, .write .partialWrite [(0, 0xAA)], 6, 0, 1, 1, .issued, some 1, some (.home 6), none⟩

def fullEntry : Entry :=
  ⟨.u0, 5, .write .full ((List.range 8).map fun i => (i, 0x55)), 7, 0, 8, 2, .issuedWrite, some 2, some (.home 7), none⟩

def repair8 : RepairRecord := ⟨8, .home 8, [(0, .poison)], 3⟩

/-- Every kind of requester but the engine has an operation in a slot; slot 6 is orphaned, slot 7 free. -/
def inFlight : State :=
  { running with
    tt := [readEntry, partialEntry, fullEntry], nextPosition := 5
    repairs := ⟨[], [⟨repair8, 3⟩]⟩
    scrub := ⟨.reading, 9, 1, some ⟨9, 4, some (.home 9, 4)⟩⟩
    memory := ⟨#v[.busy .lineRead 5 (.home 5) (.entry .u0 3) 64, .busy .lineRead 6 (.home 6) (.entry .u1 4) 64,
      .busy .chunkWrite 7 (.home 7) (.entry .u0 5) 64, .busy .chunkWrite 8 (.home 8) (.repair 8) 64,
      .busy .lineRead 9 (.home 9) .scrub 64, .orphaned .lineRead 1 (.home 1), .free, .free], 0, .u1⟩ }

def migration : Migration := ⟨10, 0, .home, 0⟩

/-- Line 10 moves to spare 0; `e` says how far the engine is, `slot` what slot 0 holds. -/
def migrating (e : Engine) (slot : Slot) : State :=
  { running with
    engine := e
    map := (Vector.replicate 128 .free).set 0 (.moving 10 .home 0)
    spares := .allocated :: List.replicate 63 .available
    memory := ⟨(Vector.replicate 8 .free).set 0 slot, 0, .u1⟩ }

def noContent : Vector ChunkContent 8 := Vector.replicate 8 .poison

def copyReading : State :=
  migrating (.copyRead migration (some 0)) (.busy .lineRead 10 (.home 10) .copyRead 64)

def copyWriting : State :=
  migrating (.copyWrite migration (some 0) noContent) (.busy .chunkWrite 16777152 (.spare 0) .copyWrite 64)

/-- An entry that waits for its first grant. -/
def fresh (p : Port) (t : Tag) (op : EntryOp) (home position : Nat) : Entry :=
  ⟨p, t, op, home, 0, 8, position, .ready, none, none, none⟩

/-- Line `h` is presented at byte `offset` of it. -/
def ask (h offset length : Nat) (op : RequestOp) : Request := ⟨.u0, 0, BitVec.ofNat 36 (64 * h + offset), length, op⟩

/-! ## Chunk classes. Which syndrome a lawful code gives is free (log 1), so these follow from its laws. -/

theorem test_classify_clean (d : ChunkData) : classify (ChunkContent.data d).stored = .clean d := by
  simp [classify, ChunkContent.stored, syndrome]

theorem test_classify_poison_with_one_error : classify (flipBit ChunkContent.poison.stored 64) = .uncorrectable := by
  have hs := syndrome_flip ChunkContent.poison.stored 64
  rw [syndrome_stored_poison] at hs
  have hm := errorColumn_mem 64
  have hnone := errorBit_none _ (Config.code.lawful.poisonHit _ hm)
  have h0 : syndrome (flipBit ChunkContent.poison.stored 64) ≠ 0 := by
    rw [hs]
    intro h
    exact Config.code.lawful.poisonApart ((BitVec.xor_eq_zero_iff.1 h) ▸ hm)
  have hp : syndrome (flipBit ChunkContent.poison.stored 64) ≠ Config.code.poison := by
    rw [hs]
    intro h
    refine Config.code.lawful.nonzero ?_
    have hz := congrArg (Config.code.poison ^^^ ·) h
    simp only [← BitVec.xor_assoc, BitVec.xor_self, BitVec.zero_xor] at hz
    exact (show (0 : Byte) = _ from hz.symm) ▸ hm
  unfold classify
  rw [if_neg h0]
  rw [hs] at hp ⊢
  rw [hnone]
  simp only
  rw [if_neg hp]

theorem test_classify_poison : classify ChunkContent.poison.stored = .poisoned := by
  unfold classify
  rw [syndrome_stored_poison, if_neg Config.code.lawful.poisonNonzero,
    errorBit_none _ Config.code.lawful.poisonApart]
  simp

/-! ## The hypotheses of the statements are met -/

/-- RESET_N is asserted with a request presented at U0; one command waits. -/
def inReset : State :=
  { State.reset with resetPin := ⟨true, false⟩, ports := ⟨some (ask 0 0 8 .read), none⟩, pending := [.tick] }

/-- RESET_N was released while CS_N was low. -/
def frameOpen : State := { running with resetPin := ⟨false, true⟩ }

/-- A request held at each port; RESET_N asserted, with and without a waiting command; RESET_N not asserted. -/
theorem test_meets_ColdReset :
    HeldLaw { running with ports := ⟨some (ask 0 0 8 .read), some { ask 0 0 8 .read with port := .u1 }⟩ } ∧
    inReset.resetPin.asserted = true ∧ HeldLaw inReset ∧ ResetLaw inReset ∧ inReset.heldAt .u1 = none ∧
    { inReset with pending := [] }.pending = [] ∧ OutOfReset running := by
  refine ⟨by decide +kernel, rfl, by decide +kernel, fun _ => rfl, rfl, rfl, rfl⟩

theorem test_meets_ResetLaws : ConfigLaw .reset ∧ CapacityLaw .reset ∧ HeldLaw .reset := by decide +kernel

theorem test_meets_ChunkTerms : 1 ≤ 64 ∧ (7 : ChunkNumber) ∈ requestedChunks 0 64 ∧
    (0 : ChunkNumber) ∈ touchedChunks 7 [(0, 1)] := by decide +kernel

theorem test_meets_CheckCode : (0 : Fin 72) ≠ 71 := by decide

/-- R22, R23: tag 3 of U0 is held; tag 0 is not; U0 holds a request. -/
theorem test_meets_TagClashAndPolicy :
    (OutOfReset inFlight ∧ inFlight.heldAt .u0 = none ∧ ∃ e ∈ inFlight.tt, e.port = .u0 ∧ e.tag = 3) ∧
    (State.reset.heldAt .u0 = none ∧ (∀ e ∈ State.reset.tt, ¬ (e.port = .u0 ∧ e.tag = 0)) ∧
      State.reset.service ≠ .running) ∧
    { State.reset with ports := ⟨some (ask 0 0 8 .read), none⟩ }.heldAt .u0 ≠ none := by decide +kernel

/-- R24 at each bound: length 0, length 65, one byte past the line. -/
theorem test_meets_Malformed :
    (∀ r ∈ [ask 0 0 0 .read, ask 0 0 65 .read, ask 0 60 5 .read], PassesToForm running r) ∧
    (ask 0 0 0 .read).length = 0 ∧ 64 < (ask 0 0 65 .read).length ∧
    64 < (ask 0 60 5 .read).address.toNat % 64 + (ask 0 60 5 .read).length := by decide +kernel

/-- R25, R26, R27 at the last visible line and the first beyond it. -/
theorem test_meets_Range :
    PassesToRange running (ask 16777152 0 64 .read) ∧
    running.visibleLines ≤ (ask 16777152 0 64 .read).address.toNat / 64 ∧
    (PassesToRange running (ask 16777151 0 8 (.write [(8, 0)])) ∧
      (ask 16777151 0 8 (.write [(8, 0)])).address.toNat / 64 < running.visibleLines ∧
      ∀ b ∈ [((8 : Nat), (0 : Byte))], (ask 16777151 0 8 (.write [(8, 0)])).length ≤ b.1) ∧
    (PassesToRange running (ask 16777151 60 4 (.write [(3, 0)])) ∧
      (ask 16777151 60 4 (.write [(3, 0)])).address.toNat / 64 < running.visibleLines ∧
      ∃ b ∈ [((3 : Nat), (0 : Byte))], b.1 < (ask 16777151 60 4 (.write [(3, 0)])).length) := by decide +kernel

/-- R34: a READ behind a write, a WRITE behind a read and behind the scrub read, either behind a repair. -/
theorem test_meets_HazardRule :
    readEntry.phase = .issued ∧ fullEntry.phase = .issuedWrite ∧
    HeldByHazard inFlight (fresh .u1 9 .read 7 5) ∧ HeldByHazard inFlight (fresh .u1 9 (.write .full []) 5 5) ∧
    HeldByHazard inFlight (fresh .u1 9 (.write .full []) 9 5) ∧ HeldByHazard inFlight (fresh .u1 9 .read 8 0) ∧
    HeldByHazard copyReading (fresh .u1 9 .read 10 5) ∧ ¬ HeldByHazard running (fresh .u1 9 .read 5 5) := by
  refine ⟨rfl, rfl, Or.inl ⟨rfl, fullEntry, by decide +kernel⟩,
    Or.inr (Or.inl ⟨rfl, Or.inl ⟨readEntry, by decide +kernel⟩⟩), Or.inr (Or.inl ⟨rfl, Or.inr ⟨_, rfl, by decide⟩⟩),
    Or.inr (Or.inr (Or.inr (Or.inl ⟨⟨repair8, 3⟩, by decide +kernel⟩))),
    Or.inr (Or.inr (Or.inr (Or.inr (by decide +kernel)))), ?_⟩
  rintro (⟨_, _, h, _⟩ | ⟨h, _⟩ | ⟨_, h, _⟩ | ⟨_, h, _⟩ | h)
  · cases h
  · cases h
  · cases h
  · cases h
  · exact absurd h (by decide +kernel)

theorem test_meets_EntriesAsk :
    running.resolve 5 = some (.home 5) ∧ (fresh .u0 1 .read 5 0).phase = .ready ∧
    (fresh .u0 1 (.write .partialWrite [(0, 1)]) 5 0).phase = .ready ∧
    { partialEntry with phase := .writeReady, readResult := some (perChunk fun _ => .clean 0) }.phase =
      .writeReady ∧ readEntry.phase ≠ .ready ∧ readEntry.phase ≠ .writeReady := by decide +kernel

/-- R51, R57: bytes 3 and 9 of the line; the FULL content of chunk 1 has the eight bytes of the request. -/
theorem test_new_bytes :
    ([(3, 0xA1), (9, 0xB2)].map fun x : Nat × Byte => x.1).Nodup ∧
    newByte 0 [(3, 0xA1), (9, 0xB2)] 9 = some 0xB2 ∧ newByte 0 [(3, 0xA1), (9, 0xB2)] 8 = none ∧
    byteAt (mergeChunk 0 [(3, 0xA1), (9, 0xB2)] 1 0x1122334455667788) 1 = 0xB2 ∧
    byteAt (mergeChunk 0 [(3, 0xA1), (9, 0xB2)] 1 0x1122334455667788) 7 = 0x11 ∧
    fullyCovered 8 ((List.range 8).map fun i => (i, BitVec.ofNat 8 i)) 1 = true ∧
    fullContent 8 ((List.range 8).map fun i => (i, BitVec.ofNat 8 i)) = [(1, .data 0x0706050403020100)] := by
  decide +kernel

theorem test_meets_WritePhaseContent :
    (0 : ChunkNumber) ∈ touchedChunks 0 [(0, 1)] ∧ (7 : ChunkNumber) ∉ touchedChunks 0 [(0, 1)] ∧
    newByte 0 [(0, 1)] 0 = some 1 ∧ newByte 0 [(0, 1)] 1 = none := by decide +kernel

theorem test_meets_Read :
    inFlight.memory.slots[(0 : SlotNumber)] = .busy .lineRead 5 (.home 5) (.entry .u0 3) 64 ∧
    inFlight.entryOf .u0 3 = some readEntry ∧ readEntry.op = .read ∧ readEntry.phase = .issued ∧
    readEntry.location = some (.home 5) ∧ inFlight.service ≠ .aborting ∧
    requestedChunks readEntry.offset readEntry.length = [0, 1] := by decide +kernel

theorem test_meets_ReadClasses :
    (classifyLine (perChunk fun _ => ChunkContent.poison.stored))[(0 : ChunkNumber)] = .poisoned ∧
    (classifyLine (perChunk fun _ => flipBit ChunkContent.poison.stored 64))[(0 : ChunkNumber)] = .uncorrectable ∧
    (classifyLine (perChunk fun _ => (ChunkContent.data 5).stored))[(0 : ChunkNumber)] = .clean 5 :=
  ⟨test_classify_poison, test_classify_poison_with_one_error, test_classify_clean 5⟩

theorem test_meets_WritesAndFailures :
    inFlight.memory.slots[(2 : SlotNumber)] = .busy .chunkWrite 7 (.home 7) (.entry .u0 5) 64 ∧
    inFlight.entryOf .u0 5 = some fullEntry ∧ fullEntry.phase = .issuedWrite ∧ inFlight.service ≠ .aborting := by
  decide +kernel

/-- With `test_meets_ReadClasses` at chunk 0: a refused write, and one that proceeds. -/
theorem test_meets_PartialWrite :
    inFlight.memory.slots[(1 : SlotNumber)] = .busy .lineRead 6 (.home 6) (.entry .u1 4) 64 ∧
    inFlight.entryOf .u1 4 = some partialEntry ∧ partialEntry.op = .write .partialWrite [(0, 0xAA)] ∧
    partialEntry.phase = .issued ∧ partialEntry.location = some (.home 6) ∧ inFlight.service ≠ .aborting ∧
    partlyCoveredChunks partialEntry.offset [(0, 0xAA)] = [0] := by decide +kernel

/-- Four records for lines 0 to 3. -/
def fourRepairs : State :=
  { running with
    repairs := ⟨[⟨0, .home 0, [], 0⟩, ⟨1, .home 1, [], 1⟩, ⟨2, .home 2, [], 2⟩, ⟨3, .home 3, [], 3⟩], []⟩
    nextPosition := 4 }

theorem test_meets_RepairOffer :
    (∃ e ∈ inFlight.tt, e.home = 7 ∧ e.op.isWrite = true ∧ 0 < e.position) ∧ copyReading.isMoving 10 = true ∧
    (∀ e ∈ fourRepairs.tt, e.home = 4 → e.op.isWrite = true → e.position ≤ 4) ∧ fourRepairs.isMoving 4 = false ∧
    (∃ q ∈ fourRepairs.repairs.queue, q.home = 3) ∧ (∀ q ∈ fourRepairs.repairs.queue, q.home ≠ 4) ∧
    4 ≤ fourRepairs.repairs.queue.length ∧ running.repairs.queue.length < 4 := by decide +kernel

/-- Chunk 0 CORRECTED, chunk 1 UNCORRECTABLE, the rest CLEAN; and a line without errors. -/
def mixedResult : LineResult := #v[.corrected 7, .uncorrectable, .clean 0, .clean 0, .clean 0, .clean 0, .clean 0, .clean 0]

theorem test_meets_HandOn :
    running.cfg.repairEnable = true ∧ repairChunks mixedResult = [(0, .data 7), (1, .poison)] ∧
    mixedResult[(0 : ChunkNumber)] = .corrected 7 ∧ mixedResult[(1 : ChunkNumber)] = .uncorrectable ∧
    ∀ c : ChunkNumber, (perChunk fun _ => ChunkResult.clean 0)[c] = .clean 0 := by decide +kernel

theorem test_meets_IssuedRepair :
    inFlight.memory.slots[(3 : SlotNumber)] = .busy .chunkWrite 8 (.home 8) (.repair 8) 64 := by decide +kernel

/-- Counts 1 and 2 below the threshold 3, and a threshold of 1. -/
def suspicious : State := { running with suspects := [⟨.home 1, 1, true⟩, ⟨.home 2, 2, false⟩] }

theorem test_meets_SuspectUpdate :
    SuspectLaw suspicious ∧ (1 + 1 < suspicious.cfg.spareThreshold) ∧ (2 + 1 = suspicious.cfg.spareThreshold) ∧
    suspicious.homeOf (.home 2) = some 2 ∧ (∀ r ∈ suspicious.suspects, r.location ≠ .home 3) ∧
    1 < suspicious.cfg.spareThreshold ∧
    SuspectLaw { running with cfg := { running.cfg with spareThreshold := 1 } } := by decide +kernel

/-- Entry 0 is ACTIVE, entry 1 moves from home, entry 127 from spare 2. -/
def mapped : State :=
  { running with
    map := (((Vector.replicate 128 .free).set 0 (.active 10 0)).set 1 (.moving 11 .home 1)).set 127
      (.moving 12 (.spare 2) 3) }

theorem test_mapped_homes : HomesLaw mapped := by
  have h : ∀ i : EntryNumber, mapped.map[i].home? =
      if i = 0 then some 10 else if i = 1 then some 11 else if i = 127 then some 12 else none := by decide +kernel
  intro i j hij
  rw [h i, h j]
  split_ifs <;> simp_all

theorem test_meets_MapLookup :
    mapped.namedSpares.Nodup ∧ mapped.map[(0 : EntryNumber)] = .active 10 0 ∧
    mapped.map[(1 : EntryNumber)] = .moving 11 .home 1 ∧ mapped.map[(127 : EntryNumber)] = .moving 12 (.spare 2) 3 ∧
    ∀ j : EntryNumber, mapped.map[j].home? ≠ some 13 := by decide +kernel

/-- R95, R96, R199 at the bounds of the home line and of the spare number. -/
theorem test_meets_MapLoad :
    TakesCommands State.reset ∧ State.reset.service = .halted ∧ running.service ≠ .halted ∧
    State.reset.visibleLines ≤ (16777152 : BitVec 32).toNat ∧ (16777151 : BitVec 32).toNat < State.reset.visibleLines ∧
    State.reset.cfg.spareLines ≤ (64 : Byte).toNat ∧ (63 : Byte).toNat < State.reset.cfg.spareLines ∧
    (∃ j : EntryNumber, { mapped with service := .halted }.map[j].home? = some 10) ∧
    (∀ j : EntryNumber, State.reset.map[j].home? ≠ some 10) ∧ State.reset.spares[63]? = some .available ∧
    copyReading.spares[0]? = some .allocated ∧ IsLowestFree State.reset 0 ∧ IsLowestFree mapped 2 ∧
    { State.reset with spares := [.retired] }.spares[0]? = some .retired := by decide +kernel

/-- A Sparing Queue of 8, for lines 0 to 7. -/
def sparingFull : State := { running with sparing := (List.range 8).map fun h => ⟨h, .command, .management⟩ }

theorem test_meets_RequestSpare :
    TakesCommands running ∧ State.reset.service ≠ .running ∧ running.service = .running ∧
    running.visibleLines ≤ (16777152 : BitVec 32).toNat ∧ (16777151 : BitVec 32).toNat < running.visibleLines ∧
    copyReading.isMoving 10 = true ∧ (∃ q ∈ sparingFull.sparing, q.home = 7) ∧
    sparingFull.isMoving 8 = false ∧ (∀ q ∈ sparingFull.sparing, q.home ≠ 8) ∧ 8 ≤ sparingFull.sparing.length ∧
    running.sparing.length < 8 ∧
    sparingFull.offerSparing ⟨8, .uncorrectable, .u1⟩ (some 4) = { sparingFull with
      events := sparingFull.events.offer 0xFFFF
        { kind := .spareQueueFull, origin := .u1, location := some (.home 8), tag := some 4,
          detail := some (.reason .uncorrectable) } } := by decide +kernel

/-- No spare; a line at home; a line that lives at spare 0. -/
theorem test_meets_Take :
    (sparingFull.engine = .idle ∧ sparingFull.service = .running ∧
      sparingFull.sparing = ⟨0, .command, .management⟩ :: sparingFull.sparing.tail) ∧
    (∀ k : Nat, { sparingFull with spares := [] }.spares[k]? ≠ some .available) ∧
    IsLowestAvailable sparingFull 0 ∧ sparingFull.mapIndex 0 = none ∧ IsLowestFree sparingFull 0 ∧
    mapped.mapIndex 10 = some 0 ∧ mapped.map[(0 : EntryNumber)] = .active 10 0 :=
  ⟨by decide +kernel, by simp, by decide +kernel, by decide +kernel, by decide +kernel, by decide +kernel,
    by decide +kernel⟩

theorem test_meets_CopyRead :
    copyReading.memory.slots[(0 : SlotNumber)] = .busy .lineRead 10 (.home 10) .copyRead 64 ∧
    copyReading.engine = .copyRead migration (some 0) ∧ copyReading.service ≠ .aborting ∧
    migration.old = .home ∧ ({ migration with old := .spare 3 } : Migration).reverted = .active 10 3 ∧
    { copyReading with service := .aborting }.service = .aborting := by decide +kernel

theorem test_meets_CopyWrite :
    copyWriting.memory.slots[(0 : SlotNumber)] = .busy .chunkWrite 16777152 (.spare 0) .copyWrite 64 ∧
    copyWriting.engine = .copyWrite migration (some 0) noContent := by decide +kernel

/-- One state for each kind of requester that asks, slot 0 FREE in each. -/
def askingRead : State := { running with tt := [fresh .u0 1 .read 5 0, fresh .u1 1 .read 6 1], nextPosition := 2 }
def askingWrite : State :=
  { running with
    tt := [{ partialEntry with phase := .writeReady, slot := none, readResult := some (perChunk fun _ => .clean 0) }]
    nextPosition := 2 }
def askingRepair : State := { running with repairs := ⟨[⟨8, .home 8, [(0, .poison)], 0⟩], []⟩, nextPosition := 1 }
def askingScrub : State := { running with scrub := ⟨.pending, 9, 1, some ⟨9, 0, none⟩⟩, nextPosition := 1 }
def promotedScrub : State := { askingRead with scrub := askingScrub.scrub, memory := { askingRead.memory with passOver := 32 } }
def askingCopyRead : State := migrating (.copyRead migration none) .free
def askingCopyWrite : State := migrating (.copyWrite migration none noContent) .free

theorem test_meets_Grant :
    (∀ s ∈ [askingRead, askingWrite, askingRepair, askingScrub, askingCopyRead, askingCopyWrite],
      s.memory.slots[(0 : SlotNumber)] = .free ∧ ∀ m : SlotNumber, m < 0 → s.memory.slots[m] ≠ .free) ∧
    askingRead.chooseGrant = some ⟨.port, .entry .u0 1, .lineRead, .home 5, []⟩ ∧
    (askingWrite.chooseGrant.map (·.requester)) = some (.entry .u1 4) ∧
    askingRepair.chooseGrant = some ⟨.writeBack, .repair 8, .chunkWrite, .home 8, [(0, .poison)]⟩ ∧
    askingScrub.chooseGrant = some ⟨.scrub, .scrub, .lineRead, .home 9, []⟩ ∧
    promotedScrub.chooseGrant = some ⟨.scrub, .scrub, .lineRead, .home 9, []⟩ ∧
    askingCopyRead.chooseGrant = some ⟨.migration, .copyRead, .lineRead, .home 10, []⟩ ∧
    (askingCopyWrite.chooseGrant.map (·.requester)) = some .copyWrite ∧ running.chooseGrant = none := by
  decide +kernel

/-- R133: of two PARTIAL write phases the older goes first, wherever it stands in the table. -/
theorem test_older_write_phase_first :
    let w := { partialEntry with phase := .writeReady, slot := none, readResult := some (perChunk fun _ => .clean 0) }
    (State.chooseGrant { askingWrite with tt := [{ w with tag := 5, home := 7, position := 1 }, { w with position := 0 }] }).map
      (·.requester) = some (.entry .u1 4) := by decide +kernel

/-- R132, R134: U0 holds the mark, so U1 goes first; both services in which grants are made. -/
theorem test_meets_GrantOrder :
    running.service = .running ∧ { askingRead with service := .stopping }.service = .stopping ∧
    State.chooseGrant { askingRead with memory := { askingRead.memory with mark := .u0 } } =
      some ⟨.port, .entry .u1 1, .lineRead, .home 6, []⟩ := by decide +kernel

/-- R131 over line 5: what each slot holds of a CHUNK WRITE and of a LINE READ of that line. -/
theorem test_exclusion :
    let held (slot : Slot) (kind : OpKind) : Bool :=
      !(State.eligible { running with memory := ⟨(Vector.replicate 8 .free).set 7 slot, 0, .u1⟩ }
        ⟨.port, .entry .u0 0, kind, .home 5, []⟩)
    held (.orphaned .chunkWrite 5 (.home 5)) .chunkWrite = true ∧
    held (.orphaned .chunkWrite 5 (.home 5)) .lineRead = false ∧
    held (.orphaned .lineRead 5 (.home 5)) .chunkWrite = false ∧
    held (.orphaned .chunkWrite 6 (.home 6)) .chunkWrite = false ∧
    held (.busy .lineRead 5 (.home 5) .scrub 0) .chunkWrite = true ∧
    held (.busy .lineRead 5 (.home 5) .scrub 0) .lineRead = false ∧
    held (.busy .chunkWrite 5 (.home 5) (.repair 5) 0) .lineRead = true ∧
    held (.busy .chunkWrite 6 (.home 6) (.repair 6) 0) .chunkWrite = false := by decide +kernel

/-- R70, R150: the head repair waits for an issued entry of its line and for a granted scrub read of it; a scrub read
waits for an older write, for a repair of its line and while its line moves. -/
theorem test_meets_Asking :
    { askingRepair with tt := [{ readEntry with home := 8 }] }.repairCandidate = none ∧
    { askingRepair with scrub := ⟨.reading, 8, 1, some ⟨8, 0, some (.home 8, 0)⟩⟩ }.repairCandidate = none ∧
    askingRepair.resolve 8 = some (.home 8) ∧ askingRepair.repairCandidate ≠ none ∧
    running.repairCandidate = none ∧ running.scrubCandidate = none ∧ askingScrub.scrubCandidate ≠ none ∧
    inFlight.scrubCandidate = none ∧
    { askingScrub with scrub := ⟨.pending, 7, 1, some ⟨7, 5, none⟩⟩, tt := [fullEntry] }.scrubCandidate = none ∧
    { askingScrub with scrub := ⟨.pending, 8, 1, some ⟨8, 5, none⟩⟩, repairs := askingRepair.repairs }.scrubCandidate =
      none ∧
    { askingCopyRead with scrub := ⟨.pending, 10, 1, some ⟨10, 5, none⟩⟩ }.scrubCandidate = none ∧
    askingCopyRead.engineCandidate ≠ none ∧ askingCopyWrite.engineCandidate ≠ none ∧
    copyReading.engineCandidate = none ∧ running.engineCandidate = none := by decide +kernel

theorem test_meets_LateCompletion :
    inFlight.memory.slots[(5 : SlotNumber)] = .orphaned .lineRead 1 (.home 1) ∧
    inFlight.memory.slots[(7 : SlotNumber)] = .free := by decide +kernel

/-- DOWNSTREAM_TIMEOUT is 64 and the counts are 64; slot 7 is FREE. -/
theorem test_meets_Expiry :
    inFlight.expiryDue 7 = false ∧ inFlight.expiryDue 0 = true ∧ inFlight.cfg.downstreamTimeout ≠ 0 ∧
    inFlight.cfg.downstreamTimeout ≤ 64 ∧ inFlight.entryOf .u0 3 = some readEntry ∧
    inFlight.memory.slots[(3 : SlotNumber)] = .busy .chunkWrite 8 (.home 8) (.repair 8) 64 ∧
    inFlight.memory.slots[(4 : SlotNumber)] = .busy .lineRead 9 (.home 9) .scrub 64 ∧
    inFlight.scrub.read = some ⟨9, 4, some (.home 9, 4)⟩ ∧ copyReading.expiryDue 0 = true ∧
    copyReading.engine = .copyRead migration (some 0) ∧ copyWriting.expiryDue 0 = true ∧
    copyWriting.engine = .copyWrite migration (some 0) noContent ∧ inFlight.service ≠ .aborting ∧
    { inFlight with service := .aborting }.service = .aborting := by decide +kernel

theorem test_meets_Tick :
    NothingDue running ∧ running.pending = [] ∧ running.microseconds + 1 < 2 ^ running.cfg.tickShift ∧
    NothingDue { running with microseconds := 15 } ∧ ¬ (15 + 1 < 2 ^ running.cfg.tickShift) := by decide +kernel

/-- The scrub waits at line `c` while line `moving` moves. -/
def scrubWaiting (moving c : Nat) : State :=
  { copyReading with map := (Vector.replicate 128 .free).set 0 (.moving moving .home 0), scrub := ⟨.waiting, c, 0, none⟩ }

/-- R80: a touched record, one that loses 1 and one that leaves. -/
theorem test_aging :
    ageSuspects [⟨.home 1, 2, true⟩, ⟨.home 2, 2, false⟩, ⟨.home 3, 1, false⟩] =
      [⟨.home 1, 2, false⟩, ⟨.home 2, 1, false⟩] := by decide +kernel

/-- The cursor elsewhere, at the MOVING line, and at the last visible line while that one moves. -/
theorem test_meets_CountdownExpiry :
    running.scrub.state = .off ∧ askingScrub.scrub.state = .pending ∧ inFlight.scrub.state = .reading ∧
    (scrubWaiting 10 0).service = .running ∧ (scrubWaiting 10 0).scrub.countdown = 0 ∧
    (scrubWaiting 10 0).scrub.state = .waiting ∧ (scrubWaiting 10 0).isMoving 0 = false ∧
    (scrubWaiting 10 10).isMoving 10 = true ∧ 10 + 1 < (scrubWaiting 10 10).visibleLines ∧
    (scrubWaiting 16777151 16777151).isMoving 16777151 = true ∧
    (scrubWaiting 16777151 16777151).visibleLines ≤ 16777151 + 1 := by decide +kernel

theorem test_meets_ScrubRead :
    inFlight.memory.slots[(4 : SlotNumber)] = .busy .lineRead 9 (.home 9) .scrub 64 ∧
    inFlight.scrub.read = some ⟨9, 4, some (.home 9, 4)⟩ ∧ inFlight.service ≠ .aborting ∧
    { inFlight with service := .aborting }.service = .aborting := by decide +kernel

theorem test_meets_Start :
    TakesCommands State.reset ∧ State.reset.service = .halted ∧ running.service ≠ .halted ∧
    TakesCommands running ∧ NoneHeld State.reset ∧ State.reset.sparing = [] ∧
    (ask 0 0 8 .read).port = .u0 ∧
    { ask 0 0 8 .read with port := .u1 }.port = .u1 := by decide +kernel

/-- No request held; a request held at each port in STOPPING under STALL. -/
theorem test_meets_HeldStays :
    HeldStays running ∧ HeldStays { running with
      service := .stopping, ports := ⟨some (ask 0 0 8 .read), some { ask 0 0 8 .read with port := .u1 }⟩ } := by
  refine ⟨⟨by decide +kernel, ?_⟩, ⟨by decide +kernel, ?_⟩⟩ <;> intro p r h
  · cases p <;> cases h
  · exact ⟨rfl, fun e he => by cases he⟩

/-- A bridge that is drained and one that is not. -/
theorem test_meets_Stop :
    TakesCommands running ∧ State.reset.service ≠ .running ∧ NoneHeld running ∧
    (running.tt = [] ∧ running.repairs = ⟨[], []⟩ ∧ running.engine = .idle ∧ running.scrub.read = none) ∧
    ¬ (inFlight.tt = [] ∧ inFlight.repairs = ⟨[], []⟩) := by decide +kernel

/-- RESTART in RUNNING with work in slots, with a migration not issued, and while a STOP executes. -/
theorem test_meets_Restart :
    (∀ s ∈ [State.reset, running, inFlight, askingCopyRead, copyReading], NoneHeld s ∧ TakesFrames s) ∧
    askingCopyRead.engine.migration? = some migration ∧ askingCopyRead.engine.issued? = none ∧
    copyReading.engine.issued? ≠ none ∧ askingScrub.scrub.read = some ⟨9, 0, none⟩ ∧
    (∀ r, inFlight.scrub.read = some r → r.granted ≠ none) ∧
    ({ running with link := ⟨.executing .stop true, false⟩ } : State).link.slot ≠ .executing .restart true := by
  refine ⟨by decide +kernel, rfl, rfl, by decide, rfl, ?_, by decide⟩
  rintro _ ⟨⟩
  decide

def stopping : State := { running with service := .stopping, link := ⟨.executing .stop true, false⟩ }
def aborting : State := { running with service := .aborting, link := ⟨.executing .restart false, true⟩ }

theorem test_meets_Drains :
    stopping.tt = [] ∧ stopping.repairs = ⟨[], []⟩ ∧ stopping.engine = .idle ∧ stopping.scrub.read = none ∧
    NoneHeld stopping ∧ stopping.link.slot = .executing .stop true ∧ running.service ≠ .stopping ∧
    aborting.tt = [] ∧ (∀ n : SlotNumber, aborting.memory.slots[n].isBusy = false) ∧ aborting.engine = .idle ∧
    NoneHeld aborting ∧ aborting.link.slot = .executing .restart false ∧ running.service ≠ .aborting := by
  decide +kernel

theorem test_meets_Aborting :
    let s := { inFlight with service := .aborting }
    s.service = .aborting ∧ s.memory.slots[(0 : SlotNumber)] = .busy .lineRead 5 (.home 5) (.entry .u0 3) 64 ∧
    s.entryOf .u0 3 = some readEntry := by decide +kernel

def record : EventRecord := ⟨0x0102, { kind := .form, origin := .u1, tag := some 15 }, true⟩

/-- The first and the last bit of the mask; a queue of 15 and a queue of 16. -/
theorem test_meets_Events :
    (0xFFFE : BitVec 16).getLsbD EventKind.corrected.code = false ∧
    (0x8000 : BitVec 16).getLsbD EventKind.restarted.code = true ∧
    (List.replicate 15 record).length < 16 ∧ 16 ≤ (List.replicate 16 record).length := by decide +kernel

theorem test_meets_TakeEvent :
    TakesCommands State.reset ∧ State.reset.events.records = [] ∧
    record.bytes = [0x01, 0x02, 4, 1, 0x88, 0, 0, 0, 0, 0, 0, 0, 15, 0] := by decide +kernel

/-- The numbers at the ends of each table; a suspect and a request to read. -/
theorem test_meets_Tables :
    TakesCommands State.reset ∧ 128 ≤ (128 : Byte).toNat ∧ (127 : EntryNumber).val = (127 : Byte).toNat ∧
    (63 : Byte).toNat < State.reset.cfg.spareLines ∧ State.reset.spares[63]? = some .available ∧
    suspicious.suspects[1]? = some ⟨.home 2, 2, false⟩ ∧ suspicious.suspects.length ≤ (31 : Byte).toNat ∧
    sparingFull.sparing[7]? = some ⟨7, .command, .management⟩ ∧ sparingFull.sparing.length ≤ (8 : Byte).toNat ∧
    State.reset.visibleLines ≤ (16777152 : BitVec 32).toNat ∧
    mapped.map[(127 : EntryNumber)].home? = some (12 : BitVec 32).toNat ∧
    (∀ j : EntryNumber, mapped.map[j].home? ≠ some (13 : BitVec 32).toNat) := by decide +kernel

/-- R196 test 2: CONFIGURE of item 0 and of item 11, in HALTED and in RUNNING. -/
theorem test_configure_of_no_item :
    (after (.overrun (LinkCommand.configure 0 1).frame) State.reset).link.slot =
      .ready ⟨0x10, .badArgument, [], false⟩ ∧
    (after (.overrun (LinkCommand.configure 11 1).frame) State.reset).link.slot =
      .ready ⟨0x10, .badArgument, [], false⟩ ∧
    (after (.overrun (LinkCommand.configure 11 1).frame) running).link.slot =
      .ready ⟨0x10, .refusedState, [], true⟩ := by decide +kernel

theorem test_meets_ConfigureIsRefused :
    TakesCommands running ∧ running.service ≠ .halted ∧ State.reset.service = .halted ∧
    ¬ (16 ≤ (15 : BitVec 32).toNat) ∧ ¬ ((31 : BitVec 32).toNat ≤ 30) ∧
    TakesCommands { mapped with service := .halted } ∧
    (∃ j : EntryNumber, ({ mapped with service := .halted } : State).map[j] ≠ .free) ∧
    (∃ x ∈ { State.reset with spares := [.retired] }.spares, x ≠ .available) := by decide +kernel

theorem test_meets_ConfigureSets :
    TakesCommands State.reset ∧ State.reset.service = .halted ∧
    (∀ j : EntryNumber, State.reset.map[j] = .free) ∧ (∀ x ∈ State.reset.spares, x = .available) ∧
    16 ≤ (30 : BitVec 32).toNat ∧ (30 : BitVec 32).toNat ≤ 30 ∧
    HeldLaw { State.reset with ports := ⟨some (ask 0 0 8 .read), some { ask 0 0 8 .read with port := .u1 }⟩ } ∧
    State.reset.tt = [] := by decide +kernel

/-- Reading a frame back, and a well-formed frame of no command. -/
theorem test_meets_Frames :
    frameKind (0x11 :: BitVec.ofNat 8 [(3 : Byte)].length :: [(3 : Byte)] ++
      [crc8 (0x11 :: BitVec.ofNat 8 [(3 : Byte)].length :: [(3 : Byte)])]) = .command (.readConfig 3) ∧
    wellFormedRest 0x01 0x00 [0x15] = true := by decide +kernel

theorem test_meets_FramesThatExecuteNothing :
    frameKind [0x01, 0x00, 0x14] = .illFormed 0x01 ∧ frameKind [0x01] = .illFormed 0x01 ∧
    frameKind [0x03, 0x00, crc8 [0x03, 0x00]] = .unknownCode 0x03 ∧
    frameKind [0x20, 0x01, 0x00, crc8 [0x20, 0x01, 0x00]] = .wrongLength 0x20 ∧
    12 < (13 : Byte).toNat ∧ [0x01, 0x00].length ≠ (0x00 : Byte).toNat + 3 ∧
    (List.replicate 12 (0 : Byte)).length = (12 : Byte).toNat ∧ inReset.resetPin.asserted = true ∧
    OutOfReset frameOpen ∧ frameOpen.resetPin.openFrame = true := by decide +kernel

/-- R189 test 4 before test 5: twelve arguments after a code of no command and after READ SPARE's. -/
theorem test_code_before_length :
    frameKind (0x00 :: 12 :: (List.replicate 12 0 ++ [crc8 (0x00 :: 12 :: List.replicate 12 0)])) = .unknownCode 0x00 ∧
    frameKind (0x3A :: 12 :: (List.replicate 12 0 ++ [crc8 (0x3A :: 12 :: List.replicate 12 0)])) = .wrongLength 0x3A := by
  decide +kernel

theorem test_meets_ExecutingSlot :
    stopping.link.slot = .executing .stop true ∧ aborting.link.slot = .executing .restart false ∧
    (LinkCommand.stop ≠ .restart) ∧ frameKind [0x21, 0x00, 0xBB] = .command .stop := by decide +kernel

/-- The reply to READ CONFIG is 11 bytes with its CRC: 10 bytes do not reach it. -/
theorem test_meets_ResultFrame :
    let s := after (.readConfig 3) State.reset
    (after (.resultFrame 12) s).link = ⟨.empty, false⟩ ∧ (after (.resultFrame 10) s).link = s.link := by
  decide +kernel

/-- R158, R188: a running bridge, and one in each kind of drain. -/
theorem test_meets_DrainLaw : DrainLaw State.reset ∧ DrainLaw running ∧ DrainLaw stopping ∧ DrainLaw aborting := by
  decide +kernel

/-- Each invariant holds of `inFlight`, which takes a step. -/
theorem test_meets_Invariants :
    (CapacityLaw inFlight ∧ RepairLaw inFlight ∧ SuspectLaw inFlight ∧ SequenceLaw inFlight ∧ ConfigLaw inFlight ∧
      HeldLaw inFlight) ∧ ExclusionLaw inFlight ∧ SparingLaw inFlight ∧
    (TagLaw inFlight ∧ SlotLaw inFlight ∧ ScrubLaw inFlight ∧ HaltedLaw inFlight ∧ AbortingLaw inFlight) ∧
    OrderLaw inFlight ∧ PhaseLaw inFlight := by
  refine ⟨by decide +kernel, by decide +kernel, by decide +kernel, ⟨by decide +kernel, by decide +kernel,
    by decide +kernel, ?_, ?_⟩, by decide +kernel, by decide +kernel⟩ <;> intro h <;> cases h

/-- A pool of one spare, which the line that moves is about to take. -/
def oneSpare : State :=
  { copyReading with cfg := { copyReading.cfg with spareLines := 1 }, spares := [.allocated] }

theorem test_oneSpare_homes : HomesLaw oneSpare := by
  have h : ∀ i : EntryNumber, oneSpare.map[i].home? = if i = 0 then some 10 else none := by decide +kernel
  intro i j hij
  rw [h i, h j]
  split_ifs <;> simp_all

theorem test_meets_MapInvariant : MapLaw oneSpare ∧ SparingLaw oneSpare :=
  ⟨⟨test_oneSpare_homes, by decide +kernel, show _ ∧ _ by decide +kernel⟩, by decide +kernel⟩

/-- Every state of the witnesses in which commands are executed is out of reset, no frame open. -/
theorem test_meets_OutOfReset :
    ∀ s ∈ [State.reset, running, inFlight, copyReading, copyWriting, fourRepairs, suspicious, mapped, sparingFull,
      askingRead, askingWrite, askingRepair, askingScrub, promotedScrub, askingCopyRead, askingCopyWrite, stopping,
      aborting], OutOfReset s ∧ TakesFrames s := by decide +kernel

/-! ## One command each -/

/-- R140, R169, R185: while RESET_N is asserted a completion leaves no event, no frame is taken, a request waits; the
release tests it and STALL holds it. -/
theorem test_in_reset :
    after (.completion 0 .failed) inReset = inReset ∧
    (after .readIdentity inReset).link = ⟨.empty, false⟩ ∧ (after .readIdentity inReset).out.miso = [0, 0, 0] ∧
    (after (.presentedRequest { ask 0 0 8 .read with port := .u1 }) inReset).ports.heldU1.isSome = true ∧
    after (.coldReset (.release true)) inReset = { inReset with resetPin := ⟨false, true⟩ } := by decide +kernel

/-- R185: the frame that was in progress as the reset ended is lost, and the next one is taken. -/
theorem test_frame_open_at_the_release :
    (after .readIdentity frameOpen).link = frameOpen.link ∧
    (after .stop (after .readIdentity frameOpen)).service = .halted := by decide +kernel

/-- The line result of a READ of line 2: a repair, the THRESHOLD request, and the UNCORRECTABLE one merged into it. -/
theorem test_hand_on :
    let s := suspicious.handOn ⟨.u0, some 3, 2, .home 2, 0⟩ mixedResult true
    s.repairs.queue = [⟨2, .home 2, [(0, .data 7), (1, .poison)], 0⟩] ∧ s.suspects = [⟨.home 1, 1, true⟩] ∧
    s.sparing = [⟨2, .threshold, .u0⟩] := by decide +kernel

theorem test_start_from_reset :
    (after .start .reset).service = .running ∧ (after .start .reset).link = ⟨.ready ⟨0x20, .ok, [], false⟩, false⟩ ∧
    (after .start .reset).out.miso = [0, 0, 0] := by decide +kernel

theorem test_frame_discards_unread_result :
    (after .readIdentity running).link.slot =
      .ready ⟨0x01, .ok, [0x5A, 0x23, 0x40, 1, 32, 16, 128, 8, 32, 4, 16, 8], true⟩ := by decide +kernel

theorem test_request_becomes_ready_entry :
    (after (.presentedRequest (ask 5 8 16 .read)) running).tt =
      [⟨.u0, 0, .read, 5, 8, 16, 0, .ready, none, none, none⟩] := by decide +kernel

theorem test_grant_offers_line_read :
    (after (.grant true) askingRead).out.memory = [⟨.lineRead, 5, 0, []⟩] ∧
    ((after (.grant true) askingRead).tt.map (·.phase)) = [.issued, .ready] := by decide +kernel

theorem test_failed_read_answers_err_memory :
    (after (.completion 0 .failed) inFlight).out.u0 = [⟨3, .errMemory, []⟩] ∧
    ((after (.completion 0 .failed) inFlight).events.records.map (·.event.kind)) = [.downstreamFailed] := by
  decide +kernel

theorem test_expiry_orphans :
    (after (.slotExpiry 3) inFlight).memory.slots[(3 : SlotNumber)] = .orphaned .chunkWrite 8 (.home 8) ∧
    (after (.slotExpiry 3) inFlight).repairs.issued = [] := by decide +kernel

theorem test_failed_copy_write_retires_the_spare :
    (after (.completion 0 .failed) copyWriting).spares[0]? = some .retired ∧
    (after (.completion 0 .failed) copyWriting).map[(0 : EntryNumber)] = .free := by decide +kernel

/-- R111: the engine waits in QUIESCE for the read of its line, and no longer. -/
theorem test_quiesce_ends_with_the_operation :
    let s := { migrating (.quiesce migration) (.busy .lineRead 10 (.home 10) (.entry .u0 3) 0) with
      tt := [{ readEntry with home := 10, location := some (.home 10) }], nextPosition := 1 }
    s.lineBusy 10 = true ∧ (after (.completion 1 .failed) s).engine = .quiesce migration ∧
    (after (.completion 0 .failed) s).engine = .copyRead migration none := by decide +kernel

theorem test_take_starts_a_copy :
    (after .take sparingFull).engine = .copyRead ⟨0, 0, .home, 0⟩ none ∧
    (after .take sparingFull).sparing.length = 7 := by decide +kernel

theorem test_restart_from_running_completes :
    (after .restart running).service = .halted ∧ (after .restart running).lastReset = .restart := by decide +kernel

end Sys2Proof.Tests
end

