-- ==== Sys2Proof/Proofs/AcceptanceTests.lean ====
section
/-! PROOFS. Acceptance tests 4 and 5 (2.3, R25, R26): what the tests before them leave, and the two immediate answers
ERR_RANGE and OK. -/

namespace Sys2Proof.Machine

/-! ## The ports -/

@[simp] theorem State.quiet_heldAt (s : State) (p : Port) : s.quiet.heldAt p = s.heldAt p := by cases p <;> rfl

@[simp] theorem State.quiet_judge (s : State) (r : Request) : s.quiet.judge r = s.judge r := rfl

/-- A request that ceases to be presented changes nothing at a port that held none. -/
theorem State.setHeld_none_of_unheld (s : State) (p : Port) (h : s.heldAt p = none) : s.setHeld p none = s := by
  obtain ⟨_, _, _, ⟨held₀, held₁⟩, _⟩ := s
  cases p with
  | u0 =>
    obtain rfl : held₀ = none := h
    rfl
  | u1 =>
    obtain rfl : held₁ = none := h
    rfl

/-- R21: out of reset, at a port that holds no request, the acceptance tests are applied at once. -/
theorem exec_presentedRequest_unheld (s : State) (r : Request) (hout : OutOfReset s) (hheld : s.heldAt r.port = none) :
    exec (.presentedRequest r) s = .next (s.quiet.present r) := by
  have harm : exec (.presentedRequest r) s = execPresentedRequest r s := rfl
  have hpin : s.resetPin.asserted = false := hout
  simp [harm, execPresentedRequest, hheld, hpin]

/-! ## What each acceptance test looks at -/

theorem State.entryOf_eq_none_iff (s : State) (p : Port) (t : Tag) :
    s.entryOf p t = none ↔ ∀ e ∈ s.tt, ¬ (e.port = p ∧ e.tag = t) := by
  simp [State.entryOf]

/-- R24: a request is well formed when it has 1 to 64 bytes, all of them in its line. -/
theorem malformed_eq_false_iff (r : Request) :
    malformed r = false ↔ 1 ≤ r.length ∧ r.length ≤ 64 ∧ r.address.toNat % 64 + r.length ≤ 64 := by
  simp only [malformed, Bool.or_eq_false_iff, beq_eq_false_iff_ne, decide_eq_false_iff_not]
  unfold byteOffset
  omega

theorem enabledBytes_eq_nil_iff (length : Nat) (bytes : List (Nat × Byte)) :
    enabledBytes length bytes = [] ↔ ∀ b ∈ bytes, length ≤ b.1 := by
  simp [enabledBytes]

/-- R26: a WRITE is empty exactly when each position of its byte-enable set is at or beyond its length. -/
theorem isEmptyWrite_iff (r : Request) (bytes : List (Nat × Byte)) (hop : r.op = .write bytes) :
    isEmptyWrite r = true ↔ ∀ b ∈ bytes, r.length ≤ b.1 := by
  simp only [isEmptyWrite, hop, List.isEmpty_iff, enabledBytes_eq_nil_iff]

/-! ## The verdict once the earlier tests are passed -/

/-- R22, R23: past tests 1 and 2, tests 3 to 5 decide. -/
theorem State.judge_of_passesToForm (s : State) (r : Request) (h : PassesToForm s r) :
    s.judge r =
      if malformed r then .form
      else if s.visibleLines ≤ lineIndex r then .range
      else if isEmptyWrite r then .emptyWrite
      else .accept := by
  obtain ⟨-, -, htags, hrunning⟩ := h
  have hentry : s.entryOf r.port r.tag = none := (s.entryOf_eq_none_iff _ _).2 htags
  simp [State.judge, hentry, hrunning]

/-- R24: past test 3 as well, tests 4 and 5 decide. -/
theorem State.judge_of_passesToRange (s : State) (r : Request) (h : PassesToRange s r) :
    s.judge r =
      if s.visibleLines ≤ lineIndex r then .range
      else if isEmptyWrite r then .emptyWrite
      else .accept := by
  obtain ⟨hform, hbytes⟩ := h
  simp [s.judge_of_passesToForm r hform, (malformed_eq_false_iff r).2 hbytes]

/-! ## What the two verdicts answer -/

theorem State.present_range (s : State) (r : Request) (hheld : s.heldAt r.port = none) (hj : s.judge r = .range) :
    s.present r = (s.respond r.port ⟨r.tag, .errRange, []⟩).offer
      { kind := .range, origin := portOrigin r.port, tag := some r.tag } := by
  simp only [State.present, hj, s.setHeld_none_of_unheld r.port hheld]

theorem State.present_emptyWrite (s : State) (r : Request) (hheld : s.heldAt r.port = none)
    (hj : s.judge r = .emptyWrite) : s.present r = s.respond r.port ⟨r.tag, .ok, []⟩ := by
  simp only [State.present, hj, s.setHeld_none_of_unheld r.port hheld]

end Sys2Proof.Machine

namespace Sys2Proof.Proofs

open Sys2Proof.Machine

/-- Settles O10: the tests before test 4 pass, so the verdict is `range`. -/
theorem outOfRangeRequestIsAnsweredErrRange : Obligations.OutOfRangeRequestIsAnsweredErrRange := by
  intro s r hpass hbeyond
  have hline : s.visibleLines ≤ lineIndex r := hbeyond
  have hj : s.judge r = .range := by rw [s.judge_of_passesToRange r hpass, if_pos hline]
  obtain ⟨⟨hout, hheld, -⟩, -⟩ := hpass
  rw [exec_presentedRequest_unheld s r hout hheld, s.quiet.present_range r (by simpa using hheld) (by simpa using hj)]

/-- Settles O11: the line is visible and no byte of the WRITE is enabled, so the verdict is `emptyWrite`. -/
theorem emptyWriteIsAnsweredOk : Obligations.EmptyWriteIsAnsweredOk := by
  intro s r bytes hpass hvisible hop hdisabled
  have hline : ¬ s.visibleLines ≤ lineIndex r := Nat.not_le.2 hvisible
  have hempty : isEmptyWrite r = true := (isEmptyWrite_iff r bytes hop).2 hdisabled
  have hj : s.judge r = .emptyWrite := by rw [s.judge_of_passesToRange r hpass, if_neg hline, if_pos hempty]
  obtain ⟨⟨hout, hheld, -⟩, -⟩ := hpass
  rw [exec_presentedRequest_unheld s r hout hheld,
    s.quiet.present_emptyWrite r (by simpa using hheld) (by simpa using hj)]

end Sys2Proof.Proofs
end

