-- ==== Sys2Proof/Proofs/LateCompletions.lean ====
section
/-! PROOFS. Late completions (7.5, R139, R140): a COMPLETION that names a slot which is not BUSY. -/

namespace Sys2Proof.Machine

/-- R136, R139, R140: out of reset, what a COMPLETION does is decided by the slot it names. -/
theorem exec_completion_out (s : State) (n : SlotNumber) (status : CompletionStatus) (hout : OutOfReset s) :
    exec (.completion n status) s = .next (s.quiet.complete n status) := by
  have harm : exec (.completion n status) s = execCompletion n status s := rfl
  rw [harm, execCompletion, s.unlessReset_out _ hout]

theorem State.setSlot_free (s : State) (n : SlotNumber) : s.setSlot n .free = { s with memory := s.slotFreed n } := rfl

@[simp] theorem State.quiet_slotFreed (s : State) (n : SlotNumber) : s.quiet.slotFreed n = s.slotFreed n := rfl

/-- R140: the status is not looked at, and the slot stays FREE. -/
theorem State.complete_of_free (s : State) (n : SlotNumber) (status : CompletionStatus)
    (hslot : s.memory.slots[n] = .free) : s.complete n status = s.offer (lateCompletion n none) := by
  simp only [State.complete, hslot]

/-- R139: the status is not looked at, the slot is FREE again, and the report names the location it held. -/
theorem State.complete_of_orphaned (s : State) (n : SlotNumber) (status : CompletionStatus) (kind : OpKind) (line : Nat)
    (l : Location) (hslot : s.memory.slots[n] = .orphaned kind line l) :
    s.complete n status = ({ s with memory := s.slotFreed n } : State).offer (lateCompletion n (some l)) := by
  simp only [State.complete, hslot, s.setSlot_free]

end Sys2Proof.Machine

namespace Sys2Proof.Proofs

open Sys2Proof.Machine

/-- Settles O33: out of reset the slot alone decides, by the two equations of `State.complete` for a slot that is not
BUSY; each leaves the state before with the fields that the statement names. -/
theorem lateCompletionIsReported : Obligations.LateCompletionIsReported := by
  intro s n status hout
  rw [exec_completion_out s n status hout]
  constructor
  · intro kind line l hslot
    have hquiet : s.quiet.memory.slots[n] = .orphaned kind line l := by simpa using hslot
    rw [s.quiet.complete_of_orphaned n status kind line l hquiet, s.quiet_slotFreed]
    rfl
  · intro hslot
    have hquiet : s.quiet.memory.slots[n] = .free := by simpa using hslot
    rw [s.quiet.complete_of_free n status hquiet]
    rfl

end Sys2Proof.Proofs
end

section
/-! PROOFS. Induction over a step: what every action of the bridge keeps, every command and every step keeps. -/

-- One declaration after the other: side by side, the threads with their stacks outgrow the memory of the check.
set_option Elab.async false

namespace Sys2Proof.Machine

/-! ## The commands of the link that take one action -/

/-- What a command of the link other than STOP and RESTART gives (`runCommand_eq_held`). -/
def settledBy (c : LinkCommand) (s : State) : Settled :=
  match c with
  | .readIdentity => readIdentity s
  | .readState => readState s
  | .configure item value => configure item value s
  | .readConfig item => readConfig item s
  | .start => start s
  | .stop => ⟨s, .ok, []⟩
  | .restart => ⟨s, .ok, []⟩
  | .loadMap home spare => loadMap home spare s
  | .loadRetired spare => loadRetired spare s
  | .requestSpare home => requestSpare home s
  | .readMapEntry entry => readMapEntry entry s
  | .findMap home => findMap home s
  | .readSpare spare => readSpare spare s
  | .readSuspect position => readSuspect position s
  | .readSparingQueue position => readSparingQueue position s
  | .takeEvent => takeEvent s
  | .readCounters => readCounters s
  | .clearCounters => clearCounters s

theorem runCommand_eq_held (c : LinkCommand) (u : Bool) (s : State) (hstop : c ≠ .stop) (hrestart : c ≠ .restart) :
    runCommand c u s = (settledBy c s).held c.code u := by
  cases c with
  | stop => exact absurd rfl hstop
  | restart => exact absurd rfl hrestart
  | _ => rfl

/-! ## What the commands do to the state -/

/-- R196: a CONFIGURE changes the state only in HALTED, in range and not in use. -/
theorem configured_state (s : State) (inRange inUse : Bool) (set : State → State) :
    (configured s inRange inUse set).state = s ∨
      s.service = .halted ∧ inRange = true ∧ inUse = false ∧ (configured s inRange inUse set).state = set s := by
  unfold configured
  by_cases hservice : s.service = .halted
  · cases inRange <;> cases inUse <;> simp [hservice]
  · simp [hservice]

/-- R196, R197, R82, R98, R146: what a CONFIGURE can make of the state before the held requests are tested again
(`configure_effect`). -/
inductive ConfigureEffect (s : State) : State → Prop
  | unchanged : ConfigureEffect s s
  | installedLines (v : Nat) : s.service = .halted → 16 ≤ v → v ≤ 30 → s.lineCountsInUse = false →
      ConfigureEffect s (State.lineCountChanged { s with cfg := { s.cfg with installedLog2 := v } })
  | spareLines (v : Nat) : s.service = .halted → v ≤ 128 → s.lineCountsInUse = false →
      ConfigureEffect s (State.lineCountChanged { s with cfg := { s.cfg with spareLines := v } })
  | spareThreshold (v : Nat) : s.service = .halted → 1 ≤ v → v ≤ 15 →
      ConfigureEffect s { s with cfg := { s.cfg with spareThreshold := v }, suspects := [] }
  | tickShift (v : Nat) : s.service = .halted → v ≤ 7 →
      ConfigureEffect s { s with cfg := { s.cfg with tickShift := v }, microseconds := 0 }
  | scrubInterval (v : Nat) : s.service = .halted → v ≤ 65535 →
      ConfigureEffect s { s with cfg := { s.cfg with scrubInterval := v } }
  | downstreamTimeout (v : Nat) : s.service = .halted → v ≤ 255 →
      ConfigureEffect s { s with cfg := { s.cfg with downstreamTimeout := v } }
  | haltedPolicy (v : HaltedPolicy) : s.service = .halted →
      ConfigureEffect s { s with cfg := { s.cfg with haltedPolicy := v } }
  | repairEnable (v : Bool) : s.service = .halted → ConfigureEffect s { s with cfg := { s.cfg with repairEnable := v } }
  | eventMask (v : BitVec 16) : s.service = .halted → ConfigureEffect s { s with cfg := { s.cfg with eventMask := v } }
  | alertEnable (v : Bool) : s.service = .halted → ConfigureEffect s { s with cfg := { s.cfg with alertEnable := v } }

theorem configured_effect (s : State) (inRange inUse : Bool) (set : State → State)
    (h : s.service = .halted → inRange = true → inUse = false → ConfigureEffect s (set s)) :
    ConfigureEffect s (configured s inRange inUse set).state := by
  rcases configured_state s inRange inUse set with heq | ⟨hservice, hrange, huse, heq⟩
  · rw [heq]
    exact .unchanged
  · rw [heq]
    exact h hservice hrange huse

/-- R23: CONFIGURE of HALTED_POLICY tests the held requests again; the others leave them. -/
theorem configure_effect (item : Byte) (value : BitVec 32) (s : State) :
    ∃ t, ConfigureEffect s t ∧
      ((configure item value s).state = t ∨ (configure item value s).state = t.retestHeld) := by
  unfold configure
  split
  · refine ⟨_, configured_effect _ _ _ _ fun hservice hrange huse => ?_, .inl rfl⟩
    obtain ⟨hlow, hhigh⟩ := of_decide_eq_true hrange
    exact .installedLines _ hservice hlow hhigh huse
  · refine ⟨_, configured_effect _ _ _ _ fun hservice hrange huse => ?_, .inl rfl⟩
    exact .spareLines _ hservice (of_decide_eq_true hrange) huse
  · refine ⟨_, configured_effect _ _ _ _ fun hservice hrange _ => ?_, .inl rfl⟩
    obtain ⟨hlow, hhigh⟩ := of_decide_eq_true hrange
    exact .spareThreshold _ hservice hlow hhigh
  · refine ⟨_, configured_effect _ _ _ _ fun hservice hrange _ => ?_, .inl rfl⟩
    exact .tickShift _ hservice (of_decide_eq_true hrange)
  · refine ⟨_, configured_effect _ _ _ _ fun hservice hrange _ => ?_, .inl rfl⟩
    exact .scrubInterval _ hservice (of_decide_eq_true hrange)
  · refine ⟨_, configured_effect _ _ _ _ fun hservice hrange _ => ?_, .inl rfl⟩
    exact .downstreamTimeout _ hservice (of_decide_eq_true hrange)
  · unfold configureHaltedPolicy
    rcases configured_state s (decide (value.toNat ≤ 1)) false fun s =>
        State.retestHeld { s with cfg := { s.cfg with haltedPolicy := if value.toNat = 0 then .stall else .refuse } }
      with heq | ⟨hservice, -, -, heq⟩
    · exact ⟨s, .unchanged, .inl heq⟩
    · exact ⟨_, .haltedPolicy _ hservice, .inr heq⟩
  · refine ⟨_, configured_effect _ _ _ _ fun hservice _ _ => ?_, .inl rfl⟩
    exact .repairEnable _ hservice
  · refine ⟨_, configured_effect _ _ _ _ fun hservice _ _ => ?_, .inl rfl⟩
    exact .eventMask _ hservice
  · refine ⟨_, configured_effect _ _ _ _ fun hservice _ _ => ?_, .inl rfl⟩
    exact .alertEnable _ hservice
  · refine ⟨_, configured_effect _ _ _ _ fun _ _ _ => ?_, .inl rfl⟩
    exact .unchanged

theorem ConfigureEffect.link {s t : State} (h : ConfigureEffect s t) : t.link = s.link := by cases h <;> rfl

/-- R195, R83, R99, R106, R181, R200: these commands only read. -/
def LinkCommand.isReading : LinkCommand → Bool
  | .readIdentity | .readState | .readConfig _ | .readMapEntry _ | .findMap _ | .readSpare _ | .readSuspect _
  | .readSparingQueue _ | .readCounters => true
  | .configure _ _ | .start | .stop | .restart | .loadMap _ _ | .loadRetired _ | .requestSpare _ | .takeEvent
  | .clearCounters => false

theorem settledBy_state_of_isReading (c : LinkCommand) (s : State) (h : c.isReading = true) :
    (settledBy c s).state = s := by
  cases c with
  | readMapEntry entry => simp only [settledBy, readMapEntry]; split <;> rfl
  | findMap home => simp only [settledBy, findMap]; (repeat' split) <;> rfl
  | readSpare spare => simp only [settledBy, readSpare]; (repeat' split) <;> rfl
  | readSuspect position => simp only [settledBy, readSuspect]; (repeat' split) <;> rfl
  | readSparingQueue position => simp only [settledBy, readSparingQueue]; (repeat' split) <;> rfl
  | readConfig item => simp only [settledBy, readConfig]; split <;> rfl
  | readIdentity => rfl
  | readState => rfl
  | readCounters => rfl
  | _ => cases h

/-- R95: LOAD MAP changes the state in HALTED alone, for a line without an entry and an AVAILABLE spare. -/
theorem loadMap_state (home : BitVec 32) (k : Byte) (s : State) :
    (loadMap home k s).state = s ∨
      ∃ i, s.service = .halted ∧ s.mapIndex home.toNat = none ∧ s.spares[k.toNat]? = some .available ∧
        s.lowestFree = some i ∧
        (loadMap home k s).state = (s.setMap i (.active home.toNat k.toNat)).setSpare k.toNat .allocated := by
  unfold loadMap
  by_cases hservice : s.service = .halted
  · by_cases hrange : s.visibleLines ≤ home.toNat ∨ s.cfg.spareLines ≤ k.toNat
    · simp [hservice, hrange]
    · cases hindex : s.mapIndex home.toNat with
      | some i => simp [hservice, hrange]
      | none =>
        by_cases hspare : s.spares[k.toNat]? = some .available
        · cases hfree : s.lowestFree <;> simp [hservice, hrange, hspare]
        · simp [hservice, hrange, hspare]
  · simp [hservice]

/-- R96: LOAD RETIRED changes the state in HALTED alone, for an AVAILABLE spare. -/
theorem loadRetired_state (k : Byte) (s : State) :
    (loadRetired k s).state = s ∨
      s.service = .halted ∧ s.spares[k.toNat]? = some .available ∧
        (loadRetired k s).state = s.setSpare k.toNat .retired := by
  unfold loadRetired
  by_cases hservice : s.service = .halted
  · by_cases hrange : s.cfg.spareLines ≤ k.toNat
    · simp [hservice, hrange]
    · cases hspare : s.spares[k.toNat]? with
      | none => simp [hservice, hrange]
      | some v => cases v <;> simp [hservice, hrange]
  · simp [hservice]

theorem requestSpare_state (home : BitVec 32) (s : State) :
    (requestSpare home s).state = s ∨
      s.service = .running ∧
        (requestSpare home s).state = s.offerSparing ⟨home.toNat, .command, .management⟩ none := by
  unfold requestSpare
  by_cases hservice : s.service = .running
  · by_cases hrange : s.visibleLines ≤ home.toNat <;> simp [hservice, hrange]
  · simp [hservice]

/-- R178: TAKE EVENT drops the head record. -/
theorem takeEvent_state (s : State) :
    (takeEvent s).state = { s with events := { s.events with records := s.events.records.tail } } := by
  obtain ⟨_, _, _, _, _, _, _, _, _, _, _, _, _, _, _, ⟨records, _, _⟩, _, _, _, _, _, _⟩ := s
  cases records <;> rfl

theorem start_state (s : State) :
    (start s).state = s ∨ s.service = .halted ∧ (start s).state = s.startAction := by
  unfold start
  by_cases hservice : s.service = .halted <;> simp [hservice]

/-- R189 test 6: no command but STOP and RESTART touches the command slot before its result is held. -/
theorem settledBy_link (c : LinkCommand) (s : State) : (settledBy c s).state.link = s.link := by
  by_cases hread : c.isReading = true
  · rw [settledBy_state_of_isReading c s hread]
  · cases c with
    | configure item value =>
      obtain ⟨t, ht, heq | heq⟩ := configure_effect item value s <;> simp [settledBy, heq, ht.link]
    | start =>
      simp only [settledBy]
      rcases start_state s with heq | ⟨-, heq⟩ <;> simp [heq]
    | loadMap home k =>
      simp only [settledBy]
      rcases loadMap_state home k s with heq | ⟨i, -, -, -, -, heq⟩ <;> simp [heq]
    | loadRetired k =>
      simp only [settledBy]
      rcases loadRetired_state k s with heq | ⟨-, -, heq⟩ <;> simp [heq]
    | requestSpare home =>
      simp only [settledBy]
      rcases requestSpare_state home s with heq | ⟨-, heq⟩ <;> simp [heq]
    | takeEvent => simp [settledBy, takeEvent_state]
    | clearCounters => rfl
    | stop => rfl
    | restart => rfl
    | _ => exact absurd rfl hread

/-! ## The actions a step is made of -/

/-- `P` is kept by every action that the commands and the timebase are made of, each from a state that has it. The
default proofs are those of a law that does not speak of the fields the action writes. -/
structure KeptByActions (P : State → Prop) : Prop where
  /-- The model's own fields, and what a frame does outside the bridge's blocks. -/
  out (s : State) (o : Outputs) : P s → P { s with out := o } := by exact fun _ _ h => h
  pending (s : State) (l : List Instr) : P s → P { s with pending := l } := by exact fun _ _ h => h
  draws (s : State) (n : Nat) : P s → P { s with draws := n } := by exact fun _ _ h => h
  frameClosed (s : State) : OutOfReset s → P s → P { s with resetPin := ⟨false, false⟩ } := by
    exact fun _ _ h => h
  atDefault (s : State) (pin : ResetPin) : P s → P (s.atDefault pin)
  /-- The command slot: a result held, a frame ignored, a result delivered. -/
  hold (s : State) (code : Byte) (status : Status) (bytes : List Byte) (u : Bool) :
    s.link.slot.isExecuting = false → P s → P (s.hold code status bytes u) := by
    exact fun _ _ _ _ _ _ h => h
  overrun (s : State) : P s → P s.ignoreFrame := by exact fun _ h => h
  delivered (s : State) : s.link.slot.isExecuting = false → P s → P { s with link := ⟨.empty, false⟩ } := by
    exact fun _ _ h => h
  /-- The ports and the arbiter. -/
  setHeld (s : State) (r : Request) : P s → P (s.setHeld r.port (some r))
  present (s : State) (r : Request) : P s → P (s.present r)
  grantTo (s : State) (c : Candidate) (n : SlotNumber) :
    s.freeSlot = some n → s.chooseGrant = some c → P s → P (s.grantTo c n)
  complete (s : State) (n : SlotNumber) (status : CompletionStatus) : P s → P (s.complete n status)
  expire (s : State) (n : SlotNumber) : P s → P (s.expire n)
  countdownExpiry (s : State) : s.countdownDue = true → P s → P s.countdownExpiry
  takeHead (s : State) : s.takeDue = true → P s → P s.takeHead
  emitTick (s : State) : P s → P s.emitTick
  microseconds (s : State) (n : Nat) : P s → P { s with microseconds := n } := by exact fun _ _ h => h
  /-- START, STOP and RESTART, and the ends of the drains. -/
  beginStart (s : State) : s.service = .halted → P s → P (State.startScrub { s with service := .running })
  beginStop (s : State) (u : Bool) : s.service = .running → P s →
    P ((State.stopScrub { s with service := .stopping }).execute .stop u)
  endStop (s : State) : s.stopDrainDue = true → P s →
    P (State.drainResult { s with service := .halted } .stop LinkCommand.stop.code)
  beginRestart (s : State) (u : Bool) : P s → P (s.beginRestart.execute .restart u)
  endRestart (s : State) : s.restartDrainDue = true → P s →
    P ((State.offer
      { s with service := .halted, sparing := [], suspects := [], scrub := { s.scrub with cursor := 0 },
               lastReset := .restart }
      { kind := .restarted, origin := .service }).drainResult .restart LinkCommand.restart.code)
  /-- The other commands of the link. -/
  configure (s t : State) : ConfigureEffect s t → P s → P t
  loadMap (s : State) (home k : Nat) (i : EntryNumber) :
    s.service = .halted → s.mapIndex home = none → s.spares[k]? = some .available → s.lowestFree = some i → P s →
    P ((s.setMap i (.active home k)).setSpare k .allocated)
  loadRetired (s : State) (k : Nat) :
    s.service = .halted → s.spares[k]? = some .available → P s → P (s.setSpare k .retired)
  requestSpare (s : State) (r : SparingRequest) : s.service = .running → P s → P (s.offerSparing r none)
  takeEvent (s : State) : P s → P { s with events := { s.events with records := s.events.records.tail } } := by
    exact fun _ h => h
  clearCounters (s : State) : P s → P { s with counters := .zero } := by exact fun _ h => h

namespace KeptByActions

variable {P Q : State → Prop}

theorem retest (h : KeptByActions P) (s : State) (p : Port) (hs : P s) : P (s.retest p) := by
  unfold State.retest
  split
  · exact hs
  · exact h.present _ _ hs

theorem retestHeld (h : KeptByActions P) (s : State) (hs : P s) : P s.retestHeld := by
  unfold State.retestHeld
  split
  · have hd := h.draws s (s.draws + 1) hs
    split
    · exact h.retest _ _ (h.retest _ _ hd)
    · exact h.retest _ _ (h.retest _ _ hd)
  · exact h.retest _ _ hs
  · exact h.retest _ _ hs
  · exact hs

theorem takeIfDue (h : KeptByActions P) (s : State) (hs : P s) : P s.takeIfDue := by
  unfold State.takeIfDue
  split
  · exact h.takeHead s ‹_› hs
  · exact hs

theorem takesDue (h : KeptByActions P) (n : Nat) (s : State) (hs : P s) : P (s.takesDue n) := by
  induction n generalizing s with
  | zero => exact hs
  | succ n ih => exact ih _ (h.takeIfDue s hs)

theorem expireIfDue (h : KeptByActions P) (s : State) (n : SlotNumber) (hs : P s) : P (s.expireIfDue n) := by
  unfold State.expireIfDue
  split
  · exact h.expire s n hs
  · exact hs

theorem expireAllDue (h : KeptByActions P) (s : State) (hs : P s) : P s.expireAllDue := by
  unfold State.expireAllDue
  generalize slotNumbers = l
  induction l generalizing s with
  | nil => exact hs
  | cons n l ih => exact ih _ (h.expireIfDue s n hs)

theorem completeStopIfDue (h : KeptByActions P) (s : State) (hs : P s) : P s.completeStopIfDue := by
  unfold State.completeStopIfDue
  split
  · exact h.retestHeld _ (h.endStop s ‹_› hs)
  · exact hs

theorem completeRestartIfDue (h : KeptByActions P) (s : State) (hs : P s) : P s.completeRestartIfDue := by
  unfold State.completeRestartIfDue
  split
  · exact h.retestHeld _ (h.endRestart s ‹_› hs)
  · exact hs

theorem grantIfPossible (h : KeptByActions P) (s : State) (ready : Bool) (hs : P s) : P (s.grantIfPossible ready) := by
  unfold State.grantIfPossible
  split
  · split
    · exact h.grantTo s _ _ ‹_› ‹_› hs
    · exact hs
    · exact hs
  · exact hs

theorem settleDue (h : KeptByActions P) (s : State) (hs : P s) : P s.settleDue := by
  have hexpired := h.expireAllDue s hs
  unfold State.settleDue
  refine h.takesDue _ _ (h.completeRestartIfDue _ (h.completeStopIfDue _ ?_))
  split
  · exact h.countdownExpiry _ ‹_› hexpired
  · exact hexpired

theorem quiet (h : KeptByActions P) (s : State) (hs : P s) : P s.quiet := h.out s _ hs

theorem unlessReset (h : KeptByActions P) (s : State) (act : State → State) (hact : ∀ t, P t → P (act t)) (hs : P s) :
    P (s.unlessReset act) := by
  unfold State.unlessReset
  split
  · exact h.quiet s hs
  · exact hact _ (h.quiet s hs)

theorem microsecond (h : KeptByActions P) (s : State) (hs : P s) : P s.microsecond := by
  refine h.unlessReset s _ (fun t ht => ?_) hs
  have hdue := h.settleDue t ht
  simp only []
  split
  · exact h.microseconds _ _ hdue
  · exact h.emitTick _ hdue

theorem startAction (h : KeptByActions P) (s : State) (hservice : s.service = .halted) (hs : P s) : P s.startAction :=
  h.takeIfDue _ (h.retestHeld _ (h.beginStart s hservice hs))

theorem stopAction (h : KeptByActions P) (s : State) (u : Bool) (hservice : s.service = .running) (hs : P s) :
    P (s.stopAction u) :=
  h.completeStopIfDue _ (h.retestHeld _ (h.beginStop s u hservice hs))

theorem restartAction (h : KeptByActions P) (s : State) (u : Bool) (hs : P s) : P (s.restartAction u) :=
  h.completeRestartIfDue _ (h.retestHeld _ (h.beginRestart s u hs))

theorem settledBy (h : KeptByActions P) (c : LinkCommand) (s : State) (hs : P s) :
    P (Machine.settledBy c s).state := by
  by_cases hread : c.isReading = true
  · rwa [settledBy_state_of_isReading c s hread]
  · cases c with
    | configure item value =>
      simp only [Machine.settledBy]
      obtain ⟨t, ht, heq | heq⟩ := configure_effect item value s
      · rw [heq]
        exact h.configure s t ht hs
      · rw [heq]
        exact h.retestHeld t (h.configure s t ht hs)
    | start =>
      simp only [Machine.settledBy]
      rcases start_state s with heq | ⟨hservice, heq⟩
      · rwa [heq]
      · rw [heq]
        exact h.startAction s hservice hs
    | stop => exact hs
    | restart => exact hs
    | loadMap home k =>
      simp only [Machine.settledBy]
      rcases loadMap_state home k s with heq | ⟨i, hservice, hindex, hspare, hfree, heq⟩
      · rwa [heq]
      · rw [heq]
        exact h.loadMap s _ _ i hservice hindex hspare hfree hs
    | loadRetired k =>
      simp only [Machine.settledBy]
      rcases loadRetired_state k s with heq | ⟨hservice, hspare, heq⟩
      · rwa [heq]
      · rw [heq]
        exact h.loadRetired s _ hservice hspare hs
    | requestSpare home =>
      simp only [Machine.settledBy]
      rcases requestSpare_state home s with heq | ⟨hservice, heq⟩
      · rwa [heq]
      · rw [heq]
        exact h.requestSpare s _ hservice hs
    | takeEvent =>
      simp only [Machine.settledBy, takeEvent_state]
      exact h.takeEvent s hs
    | clearCounters => exact h.clearCounters s hs
    | _ => exact absurd rfl hread

theorem runCommand (h : KeptByActions P) (c : LinkCommand) (u : Bool) (s : State)
    (hslot : s.link.slot.isExecuting = false) (hs : P s) : P (Machine.runCommand c u s) := by
  by_cases hstop : c = .stop
  · subst hstop
    simp only [Machine.runCommand, stop]
    split
    · exact h.stopAction s u ‹_› hs
    · exact h.hold _ _ _ _ _ hslot hs
  · by_cases hrestart : c = .restart
    · subst hrestart
      exact h.restartAction s u hs
    · rw [runCommand_eq_held c u s hstop hrestart]
      exact h.hold _ _ _ _ _ (by rw [settledBy_link]; exact hslot) (h.settledBy c s hs)

theorem settleTaken (h : KeptByActions P) (k : FrameKind) (u : Bool) (s : State)
    (hslot : s.link.slot.isExecuting = false) (hs : P s) : P (Machine.settleTaken k u s) := by
  cases k with
  | command c => exact h.runCommand c u s hslot hs
  | silent => exact hs
  | result n => exact hs
  | illFormed code => exact h.hold _ _ _ _ _ hslot hs
  | unknownCode code => exact h.hold _ _ _ _ _ hslot hs
  | wrongLength code => exact h.hold _ _ _ _ _ hslot hs

theorem settleFrame (h : KeptByActions P) (k : FrameKind) (s : State) (hs : P s) : P (Machine.settleFrame k s) := by
  cases hslot : s.link.slot with
  | executing d b =>
    by_cases hk : k = .command .restart
    · subst hk
      rw [settleFrame_restart s d b hslot]
      cases d with
      | stop => exact h.restartAction s true hs
      | restart => exact hs
    · rw [settleFrame_ignored k s d b hslot hk]
      exact h.overrun s hs
  | _ =>
    have hfree : s.link.slot.isExecuting = false := by rw [hslot]; rfl
    rw [settleFrame_taken k s hfree]
    exact h.settleTaken k _ s hfree hs

theorem resultFrame (h : KeptByActions P) (s : State) (n : Nat) (hs : P s) : P (s.resultFrame n) := by
  unfold State.resultFrame
  have ho := h.out s { s.out with miso := s.link.miso n } hs
  cases hslot : s.link.slot with
  | ready r =>
    simp only []
    split
    · exact h.delivered _ (by simp [hslot, CommandSlot.isExecuting]) ho
    · exact ho
  | _ => exact ho

theorem frameEnds (h : KeptByActions P) (s : State) (n : Nat) (take : State → State) (htake : ∀ t, P t → P (take t))
    (hs : P s) : P (s.frameEnds n take) := by
  have hq := h.quiet s hs
  unfold State.frameEnds
  split_ifs with hreset hopen
  · exact h.out _ _ hq
  · exact h.frameClosed _ (Bool.eq_false_iff.2 hreset) (h.out _ _ hq)
  · exact htake _ hq

theorem takeFrame (h : KeptByActions P) (bytes : List Byte) (s : State) (hs : P s) : P (Machine.takeFrame bytes s) := by
  refine h.frameEnds s _ _ (fun t ht => ?_) hs
  split
  · exact ht
  · exact h.resultFrame t _ ht
  · exact h.settleFrame _ _ (h.out _ _ ht)

theorem takeCommand (h : KeptByActions P) (c : LinkCommand) (s : State) (hs : P s) : P (Machine.takeCommand c s) :=
  h.frameEnds s _ _ (fun _ ht => h.settleFrame _ _ (h.out _ _ ht)) hs

theorem coldReset (h : KeptByActions P) (s : State) (edge : ResetEdge) (hs : P s) : P (s.coldReset edge) := by
  cases edge with
  | whole frameOpen => exact h.retestHeld _ (h.atDefault s _ hs)
  | assertion => exact h.atDefault s _ hs
  | release frameOpen =>
    simp only [State.coldReset]
    split
    · exact h.retestHeld _ (h.atDefault s _ hs)
    · exact h.quiet s hs

theorem presentedRequest (h : KeptByActions P) (r : Request) (s t : State)
    (ht : exec (.presentedRequest r) s = .next t) (hs : P s) : P t := by
  have harm : exec (.presentedRequest r) s = execPresentedRequest r s := rfl
  rw [harm] at ht
  unfold execPresentedRequest at ht
  have hq := h.quiet s hs
  split at ht
  · cases ht
    exact hq
  · split at ht
    · cases ht
      exact h.setHeld _ r hq
    · cases ht
      exact h.present _ r hq

/-- Every command keeps what every action keeps. -/
theorem exec (h : KeptByActions P) (c : Instr) (s t : State) (ht : Machine.exec c s = .next t) (hs : P s) : P t := by
  cases c with
  | coldReset edge => cases ht; exact h.coldReset s edge hs
  | presentedRequest r => exact h.presentedRequest r s t ht hs
  | grant ready => cases ht; exact h.unlessReset s _ (fun t => h.grantIfPossible t ready) hs
  | completion n status => cases ht; exact h.unlessReset s _ (fun t => h.complete t n status) hs
  | tick => cases ht; exact h.unlessReset s _ (fun t ht => h.emitTick _ (h.settleDue t ht)) hs
  | slotExpiry n => cases ht; exact h.unlessReset s _ (fun t => h.expireIfDue t n) hs
  | countdownExpiry =>
    cases ht
    refine h.unlessReset s _ (fun t ht => ?_) hs
    split
    · exact h.countdownExpiry t ‹_› ht
    · exact ht
  | take => cases ht; exact h.unlessReset s _ h.takeIfDue hs
  | stopDrainComplete => cases ht; exact h.unlessReset s _ h.completeStopIfDue hs
  | restartDrainComplete => cases ht; exact h.unlessReset s _ h.completeRestartIfDue hs
  | badCheck frame => cases ht; exact h.takeFrame frame s hs
  | unknown frame => cases ht; exact h.takeFrame frame s hs
  | overrun frame => cases ht; exact h.takeFrame frame s hs
  | badArgumentLength frame => cases ht; exact h.takeFrame frame s hs
  | resultFrame n =>
    cases ht
    refine h.frameEnds s _ _ (fun t ht => ?_) hs
    split
    · exact ht
    · exact h.resultFrame t n ht
  | _ => cases ht; exact h.takeCommand _ s hs

/-- Every step keeps what every action keeps. -/
theorem step (h : KeptByActions P) (s s' : State) (hstep : Machine.step s = .next s') (hs : P s) : P s' := by
  unfold Machine.step at hstep
  split at hstep
  · cases hstep
    exact h.microsecond s hs
  · exact h.exec _ _ _ hstep (h.pending s _ hs)

theorem and (hP : KeptByActions P) (hQ : KeptByActions Q) : KeptByActions fun s => P s ∧ Q s where
  out s o h := ⟨hP.out s o h.1, hQ.out s o h.2⟩
  pending s l h := ⟨hP.pending s l h.1, hQ.pending s l h.2⟩
  draws s n h := ⟨hP.draws s n h.1, hQ.draws s n h.2⟩
  frameClosed s ho h := ⟨hP.frameClosed s ho h.1, hQ.frameClosed s ho h.2⟩
  atDefault s pin h := ⟨hP.atDefault s pin h.1, hQ.atDefault s pin h.2⟩
  hold s c t b u hs h := ⟨hP.hold s c t b u hs h.1, hQ.hold s c t b u hs h.2⟩
  overrun s h := ⟨hP.overrun s h.1, hQ.overrun s h.2⟩
  delivered s hs h := ⟨hP.delivered s hs h.1, hQ.delivered s hs h.2⟩
  setHeld s r h := ⟨hP.setHeld s r h.1, hQ.setHeld s r h.2⟩
  present s r h := ⟨hP.present s r h.1, hQ.present s r h.2⟩
  grantTo s c n hn hc h := ⟨hP.grantTo s c n hn hc h.1, hQ.grantTo s c n hn hc h.2⟩
  complete s n st h := ⟨hP.complete s n st h.1, hQ.complete s n st h.2⟩
  expire s n h := ⟨hP.expire s n h.1, hQ.expire s n h.2⟩
  countdownExpiry s hd h := ⟨hP.countdownExpiry s hd h.1, hQ.countdownExpiry s hd h.2⟩
  takeHead s hd h := ⟨hP.takeHead s hd h.1, hQ.takeHead s hd h.2⟩
  emitTick s h := ⟨hP.emitTick s h.1, hQ.emitTick s h.2⟩
  microseconds s n h := ⟨hP.microseconds s n h.1, hQ.microseconds s n h.2⟩
  beginStart s hd h := ⟨hP.beginStart s hd h.1, hQ.beginStart s hd h.2⟩
  beginStop s u hd h := ⟨hP.beginStop s u hd h.1, hQ.beginStop s u hd h.2⟩
  endStop s hd h := ⟨hP.endStop s hd h.1, hQ.endStop s hd h.2⟩
  beginRestart s u h := ⟨hP.beginRestart s u h.1, hQ.beginRestart s u h.2⟩
  endRestart s hd h := ⟨hP.endRestart s hd h.1, hQ.endRestart s hd h.2⟩
  configure s t ht h := ⟨hP.configure s t ht h.1, hQ.configure s t ht h.2⟩
  loadMap s a k i hs hi hk hf h := ⟨hP.loadMap s a k i hs hi hk hf h.1, hQ.loadMap s a k i hs hi hk hf h.2⟩
  loadRetired s k hs hk h := ⟨hP.loadRetired s k hs hk h.1, hQ.loadRetired s k hs hk h.2⟩
  requestSpare s r hs h := ⟨hP.requestSpare s r hs h.1, hQ.requestSpare s r hs h.2⟩
  takeEvent s h := ⟨hP.takeEvent s h.1, hQ.takeEvent s h.2⟩
  clearCounters s h := ⟨hP.clearCounters s h.1, hQ.clearCounters s h.2⟩

end KeptByActions

end Sys2Proof.Machine
end

section
/-! PROOFS. The queues and the lists (4.1.1, 4.2.1, 10.4, 11.3.1): capacities, one record for each line or location, the
numbering of events, the ranges of the configuration and the held requests are kept by every step. -/

-- One declaration after the other: side by side, the threads with their stacks outgrow the memory of the check.
set_option Elab.async false

namespace Sys2Proof.Machine

/-! ## The laws, component by component -/

/-- R64: the law of the Repair Queue. -/
abbrev QueueLaw (l : List RepairRecord) : Prop := l.length ≤ 4 ∧ l.Pairwise fun a b => a.home ≠ b.home

/-- R75: the law of the Suspect List under a threshold. -/
abbrev SuspectListLaw (threshold : Nat) (l : List SuspectRecord) : Prop :=
  l.length ≤ 32 ∧ (l.Pairwise fun a b => a.location ≠ b.location) ∧ ∀ r ∈ l, 1 ≤ r.count ∧ r.count < threshold

/-- R176, R177: the law of the Event Queue. -/
abbrev EventQueueLaw (q : EventQueue) : Prop :=
  q.records.length ≤ 16 ∧ chained q.records = true ∧
    ∀ r ∈ q.records.getLast?, q.lost = false → q.sequence = r.sequence + 1

/-- The laws of CollectionsKeepTheirLaws, one for each component of the state (`collections_iff`). -/
structure Collections (s : State) : Prop where
  queue : QueueLaw s.repairs.queue
  suspects : SuspectListLaw s.cfg.spareThreshold s.suspects
  sparing : s.sparing.length ≤ 8
  events : EventQueueLaw s.events
  passOver : s.memory.passOver ≤ 32
  cfg : ConfigLaw s
  held : HeldLaw s

theorem collections_iff (s : State) :
    Collections s ↔
      CapacityLaw s ∧ RepairLaw s ∧ SuspectLaw s ∧ SequenceLaw s ∧ ConfigLaw s ∧ HeldLaw s := by
  constructor
  · rintro ⟨⟨hq, hrep⟩, ⟨hs, hsus⟩, hsp, ⟨he, hseq⟩, hp, hc, hh⟩
    exact ⟨⟨hq, hs, hsp, he, hp⟩, hrep, hsus, hseq, hc, hh⟩
  · rintro ⟨⟨hq, hs, hsp, he, hp⟩, hrep, hsus, hseq, hc, hh⟩
    exact ⟨⟨hq, hrep⟩, ⟨hs, hsus⟩, hsp, ⟨he, hseq⟩, hp, hc, hh⟩

/-- A state whose components are those of a lawful one, or lawful themselves, is lawful. -/
theorem Collections.update {s t : State} (h : Collections s)
    (cfg : t.cfg = s.cfg := by simp) (ports : t.ports = s.ports := by simp)
    (queue : t.repairs.queue = s.repairs.queue ∨ QueueLaw t.repairs.queue := by exact .inl (by simp))
    (suspects : t.suspects = s.suspects ∨ SuspectListLaw s.cfg.spareThreshold t.suspects := by exact .inl (by simp))
    (sparing : t.sparing = s.sparing ∨ t.sparing.length ≤ 8 := by exact .inl (by simp))
    (events : t.events = s.events ∨ EventQueueLaw t.events := by exact .inl (by simp))
    (passOver : t.memory.passOver = s.memory.passOver ∨ t.memory.passOver ≤ 32 := by exact .inl (by simp)) :
    Collections t where
  queue := queue.elim (fun e => e ▸ h.queue) id
  suspects := suspects.elim (fun e => by rw [e, cfg]; exact h.suspects) fun e => by rwa [cfg]
  sparing := sparing.elim (fun e => e ▸ h.sparing) id
  events := events.elim (fun e => e ▸ h.events) id
  passOver := passOver.elim (fun e => e ▸ h.passOver) id
  cfg := by unfold ConfigLaw; rw [cfg]; exact h.cfg
  held := by unfold HeldLaw; rw [ports]; exact h.held

/-! ## Actions that write no component -/

theorem Collections.relook {s : State} (h : Collections s) : Collections s.relook := h.update

theorem Collections.quiesceEnd {s : State} (h : Collections s) : Collections s.quiesceEnd := h.update

theorem Collections.ceaseScrubRead {s : State} (h : Collections s) : Collections s.ceaseScrubRead := h.update

theorem Collections.createScrubRead {s : State} (h : Collections s) : Collections s.createScrubRead := h.update

theorem Collections.withScrub {s : State} (h : Collections s) (c : Scrub) : Collections { s with scrub := c } := h.update

theorem Collections.withOut {s : State} (h : Collections s) (o : Outputs) : Collections { s with out := o } := h.update

theorem Collections.withDraws {s : State} (h : Collections s) (n : Nat) : Collections { s with draws := n } := h.update

theorem Collections.setSlot {s : State} (h : Collections s) (n : SlotNumber) (v : Slot) : Collections (s.setSlot n v) :=
  h.update

theorem Collections.answer {s : State} (h : Collections s) (e : Entry) (status : ResponseStatus) (data : List Byte) :
    Collections (s.answer e status data) := h.update

theorem Collections.revert {s : State} (h : Collections s) (m : Migration) (v : SpareState) :
    Collections (s.revert m v) := h.update

/-! ## The Event Queue -/

theorem chained_append (l : List EventRecord) (x : EventRecord) (hl : chained l = true)
    (hlast : ∀ r ∈ l.getLast?, x.lost = true ∨ x.sequence = r.sequence + 1) : chained (l ++ [x]) = true := by
  induction l with
  | nil => rfl
  | cons a l ih =>
    cases l with
    | nil =>
      have := hlast a (by simp)
      simpa [chained] using this
    | cons b l =>
      simp only [chained, Bool.and_eq_true] at hl
      have hrest := ih hl.2 fun r hr => hlast r (by simpa [List.getLast?_cons] using hr)
      simp only [List.cons_append, chained, Bool.and_eq_true]
      exact ⟨hl.1, hrest⟩

theorem chained_tail (l : List EventRecord) (h : chained l = true) : chained l.tail = true := by
  match l with
  | [] => rfl
  | [_] => rfl
  | a :: b :: l =>
    simp only [chained, Bool.and_eq_true] at h
    exact h.2

/-- R176: a stored event follows the one before it or carries the lost mark; a dropped one sets the mark. -/
theorem EventQueueLaw.pass {q : EventQueue} (h : EventQueueLaw q) (e : Event) : EventQueueLaw (q.pass e) := by
  obtain ⟨hlength, hchained, hlast⟩ := h
  unfold EventQueue.pass
  split_ifs with hroom
  · have hcapacity : q.records.length < 16 := hroom
    refine ⟨by simpa using hcapacity, chained_append _ _ hchained fun r hr => ?_, by simp⟩
    cases hlost : q.lost with
    | true => exact .inl rfl
    | false => exact .inr (hlast r hr hlost)
  · exact ⟨hlength, hchained, by simp⟩

theorem EventQueueLaw.offer {q : EventQueue} (h : EventQueueLaw q) (mask : BitVec 16) (e : Event) :
    EventQueueLaw (q.offer mask e) := by
  unfold EventQueue.offer
  split_ifs
  · exact h.pass e
  · exact h

theorem EventQueueLaw.tail {q : EventQueue} (h : EventQueueLaw q) : EventQueueLaw { q with records := q.records.tail } := by
  obtain ⟨hlength, hchained, hlast⟩ := h
  refine ⟨by simpa using by omega, chained_tail _ hchained, fun r hr hlost => hlast r ?_ hlost⟩
  cases hq : q.records with
  | nil => simp [hq] at hr
  | cons a l =>
    cases l with
    | nil => simp [hq] at hr
    | cons b l => simpa [hq, List.getLast?_cons] using hr

theorem Collections.offer {s : State} (h : Collections s) (e : Event) : Collections (s.offer e) :=
  h.update (events := .inr (by simpa using h.events.offer _ e))

theorem Collections.bump {s : State} (h : Collections s) (n : CounterName) : Collections (s.bump n) := h.update

/-! ## The Repair Queue -/

theorem QueueLaw.sublist {l l' : List RepairRecord} (h : QueueLaw l) (hl : l'.Sublist l) : QueueLaw l' :=
  ⟨hl.length_le.trans h.1, h.2.sublist hl⟩

/-- R67: a merge changes no record's line. -/
theorem QueueLaw.map {l : List RepairRecord} (h : QueueLaw l) (f : RepairRecord → RepairRecord)
    (hf : ∀ r, (f r).home = r.home) : QueueLaw (l.map f) :=
  ⟨by simpa using h.1, by simpa [List.pairwise_map, hf] using h.2⟩

/-- R69: a record is queued while there is room and none of its line. -/
theorem QueueLaw.append {l : List RepairRecord} (h : QueueLaw l) (r : RepairRecord) (hroom : l.length < 4)
    (hnew : ∀ q ∈ l, q.home ≠ r.home) : QueueLaw (l ++ [r]) :=
  ⟨by simpa using hroom, List.pairwise_append.2 ⟨h.2, by simp, by simpa using hnew⟩⟩

theorem Collections.settleRepair {s : State} (h : Collections s) (src : ReadSource)
    (chunks : List (ChunkNumber × ChunkContent)) : Collections (s.settleRepair src chunks) := by
  unfold State.settleRepair
  split_ifs with hdiscard hmerge hfull
  · exact h
  · refine h.update (queue := .inr (h.queue.map _ fun r => ?_))
    split <;> rfl
  · exact (h.offer _).bump _
  · refine h.update (queue := .inr (h.queue.append _ (Nat.lt_of_not_le hfull) ?_))
    simpa using hmerge

theorem Collections.offerRepair {s : State} (h : Collections s) (src : ReadSource) (r : LineResult) :
    Collections (s.offerRepair src r) := by
  unfold State.offerRepair
  split_ifs
  · exact h.settleRepair _ _
  · exact h

/-! ## The Sparing Queue and the Suspect List -/

theorem Collections.offerSparing {s : State} (h : Collections s) (r : SparingRequest) (tag : Option Tag) :
    Collections (s.offerSparing r tag) := by
  unfold State.offerSparing
  cases hout : s.sparingOutcome r with
  | already => exact h
  | full => exact h.offer _
  | queued =>
    have hroom : s.sparing.length < 8 := by
      unfold State.sparingOutcome at hout
      split_ifs at hout with h₁ h₂ h₃
      exact Nat.lt_of_not_le h₃
    exact h.update (sparing := .inr (by simpa using hroom))

theorem Collections.raiseThreshold {s : State} (h : Collections s) (l : Location) (o : Origin) (tag : Option Tag) :
    Collections (s.raiseThreshold l o tag) := by
  unfold State.raiseThreshold
  split
  · exact h.offerSparing _ _
  · exact h

theorem suspectListLaw_nil (threshold : Nat) : SuspectListLaw threshold [] := ⟨by simp, by simp, by simp⟩

theorem SuspectListLaw.sublist {threshold : Nat} {l l' : List SuspectRecord} (h : SuspectListLaw threshold l)
    (hl : l'.Sublist l) : SuspectListLaw threshold l' :=
  ⟨hl.length_le.trans h.1, h.2.1.sublist hl, fun r hr => h.2.2 r (hl.subset hr)⟩

theorem SuspectListLaw.append {threshold : Nat} {l : List SuspectRecord} (h : SuspectListLaw threshold l)
    (r : SuspectRecord) (hroom : l.length < 32) (hnew : ∀ x ∈ l, x.location ≠ r.location)
    (hcount : 1 ≤ r.count ∧ r.count < threshold) : SuspectListLaw threshold (l ++ [r]) := by
  obtain ⟨hlength, hpairs, hcounts⟩ := h
  refine ⟨by simpa using hroom, List.pairwise_append.2 ⟨hpairs, by simp, by simpa using hnew⟩, fun x hx => ?_⟩
  rcases List.mem_append.1 hx with hx | hx
  · exact hcounts x hx
  · obtain rfl := List.mem_singleton.1 hx
    exact hcount

/-- R80: aging takes 1 from a count above 1, or takes the record out. -/
theorem SuspectListLaw.age {threshold : Nat} {l : List SuspectRecord} (h : SuspectListLaw threshold l) :
    SuspectListLaw threshold (ageSuspects l) := by
  obtain ⟨hlength, hpairs, hcounts⟩ := h
  have hlocation : ∀ r x : SuspectRecord, (if r.touched then some { r with touched := false }
      else if r.count ≤ 1 then none else some { r with count := r.count - 1, touched := false }) = some x →
      x.location = r.location ∧ (1 ≤ r.count → 1 ≤ x.count) ∧ x.count ≤ r.count := by
    intro r x hx
    split_ifs at hx with htouched hone
    · cases hx
      exact ⟨rfl, id, le_rfl⟩
    · cases hx
      exact ⟨rfl, fun _ => by simp only []; omega, Nat.sub_le _ _⟩
  refine ⟨(List.length_filterMap_le _ _).trans hlength, ?_, fun x hx => ?_⟩
  · refine hpairs.filterMap _ fun a b hab x hx y hy => ?_
    rw [(hlocation a x hx).1, (hlocation b y hy).1]
    exact hab
  · obtain ⟨r, hr, hx⟩ := List.mem_filterMap.1 hx
    obtain ⟨-, hlow, hhigh⟩ := hlocation r x hx
    exact ⟨hlow (hcounts r hr).1, hhigh.trans_lt (hcounts r hr).2⟩

theorem length_filter_location_lt (l : List SuspectRecord) (location : Location) (r : SuspectRecord)
    (hr : l.find? (fun x => x.location == location) = some r) :
    (l.filter fun x => x.location != location).length < l.length := by
  have hlocation : r.location = location := by simpa using List.find?_some hr
  exact List.length_filter_lt_length_iff_exists.2 ⟨r, List.mem_of_find?_eq_some hr, by simp [hlocation]⟩

theorem Collections.withSuspects {s : State} (h : Collections s) (l : List SuspectRecord)
    (hl : SuspectListLaw s.cfg.spareThreshold l) : Collections { s with suspects := l } :=
  h.update (suspects := .inr hl)

theorem Collections.suspectUpdate {s : State} (h : Collections s) (l : Location) (o : Origin) (tag : Option Tag) :
    Collections (s.suspectUpdate l o tag) := by
  have hothers := h.suspects.sublist (List.filter_sublist (p := fun r => r.location != l))
  unfold State.suspectUpdate
  simp only []
  cases hfind : s.suspects.find? fun r => r.location == l with
  | some r =>
    have hshort := length_filter_location_lt _ _ _ hfind
    simp only []
    split_ifs with hbelow
    · refine h.withSuspects _ (hothers.append _ ?_ ?_ ⟨by simp, hbelow⟩)
      · exact hshort.trans_le h.suspects.1
      · simp
    · exact (h.withSuspects _ hothers).raiseThreshold _ _ _
  | none =>
    have hnew : ∀ x ∈ s.suspects, x.location ≠ l := by simpa using hfind
    simp only []
    split_ifs with hone
    · exact h.raiseThreshold _ _ _
    · have hroom : (roomForSuspect s.suspects).Sublist s.suspects ∧ (roomForSuspect s.suspects).length < 32 := by
        unfold roomForSuspect
        split_ifs with hspace
        · exact ⟨List.Sublist.refl _, hspace⟩
        · refine ⟨List.drop_sublist _ _, ?_⟩
          have := h.suspects.1
          have : ¬ s.suspects.length < 32 := hspace
          rw [List.length_drop]
          omega
      refine h.withSuspects _ ((h.suspects.sublist hroom.1).append _ hroom.2 (fun x hx => ?_) ⟨le_rfl, by simp only []; omega⟩)
      exact hnew x (hroom.1.subset hx)

/-! ## What a read hands on -/

theorem Collections.handOn {s : State} (h : Collections s) (src : ReadSource) (r : LineResult) (repair : Bool) :
    Collections (s.handOn src r repair) := by
  have hoffered : Collections (if repair then s.offerRepair src r else s) :=
    iteInduction (fun _ => h.offerRepair _ _) fun _ => h
  unfold State.handOn
  refine iteInduction (fun _ => ?_) fun _ => Collections.offerSparing ?_ _ _
  all_goals exact iteInduction (fun _ => hoffered) fun _ => hoffered.suspectUpdate _ _ _

theorem Collections.reportChunks {s : State} (h : Collections s) (src : ReadSource) (k : EventKind) (n : CounterName)
    (l : List ChunkNumber) : Collections (s.reportChunks src k n l) := by
  cases l with
  | nil => exact h
  | cons c cs => exact (h.offer _).bump _

theorem Collections.reportRead {s : State} (h : Collections s) (src : ReadSource) (r : LineResult)
    (l : List ChunkNumber) : Collections (s.reportRead src r l) :=
  ((h.reportChunks _ _ _ _).reportChunks _ _ _ _).reportChunks _ _ _ _

/-! ## The ends of operations -/

theorem Collections.endReadPhase {s : State} (h : Collections s) (e : Entry) (bytes : List (Nat × Byte))
    (r : LineResult) : Collections (s.endReadPhase e bytes r) := by
  have hupdated (f : Entry → Entry) : Collections (s.updateEntry e.port e.tag f) := h.update
  unfold State.endReadPhase
  simp only []
  split
  · exact ((hupdated _).reportRead _ _ _).handOn _ _ _
  · exact ((h.answer _ _ _).reportRead _ _ _).handOn _ _ _

theorem Collections.endEntry {s : State} (h : Collections s) (e : Entry) (x : Ending) : Collections (s.endEntry e x) := by
  unfold State.endEntry
  refine iteInduction (fun _ => h.answer _ _ _) fun _ => ?_
  cases x with
  | failure => exact h.answer _ _ _
  | done r =>
    refine iteInduction (fun _ => ?_) fun _ => h.answer _ _ _
    cases e.op with
    | read => exact ((h.answer _ _ _).reportRead _ _ _).handOn _ _ _
    | write cls bytes => exact h.endReadPhase _ _ _

theorem Collections.endRepair {s : State} (h : Collections s) (n : SlotNumber) (x : Ending) :
    Collections (s.endRepair n x) := by
  have hended : Collections { s with repairs := { s.repairs with issued := s.repairs.issued.filter fun r => r.slot != n } } :=
    h.update
  exact iteInduction (fun _ => hended.bump _) fun _ => hended

theorem Collections.passEnd {s : State} (h : Collections s) : Collections s.passEnd := by
  have hcounted := h.bump .scrubPasses
  have haged := (hcounted.withSuspects _ hcounted.suspects.age).offer { kind := .scrubPass, origin := .scrub }
  exact haged.withScrub _

theorem Collections.advanceCursor {s : State} (h : Collections s) : Collections s.advanceCursor :=
  iteInduction (fun _ => h.update) fun _ => h.passEnd

theorem Collections.endScrubRead {s : State} (h : Collections s) (r : Option LineResult) :
    Collections (s.endScrubRead r) := by
  unfold State.endScrubRead
  split
  · split_ifs
    · exact h.update
    · refine (Collections.advanceCursor ?_).ceaseScrubRead
      cases r with
      | some r => exact (h.reportRead _ _ _).handOn _ _ _
      | none => exact h
  · exact h
  · exact h

theorem Collections.commit {s : State} (h : Collections s) (m : Migration) : Collections (s.commit m) := by
  unfold State.commit
  refine (Collections.bump (Collections.offer ?_ _) _).relook
  exact h.update (suspects := .inr (by simpa using h.suspects.sublist List.filter_sublist))

theorem Collections.failMigration {s : State} (h : Collections s) (m : Migration) (g : Stage) (v : SpareState) :
    Collections (s.failMigration m g v) :=
  ((h.revert _ _).offer _).bump _

theorem Collections.endCopyRead {s : State} (h : Collections s) (r : Option LineResult) :
    Collections (s.endCopyRead r) := by
  unfold State.endCopyRead
  split
  · split_ifs
    · exact h.revert _ _
    · split
      · exact h.update
      · exact h.failMigration _ _ _
  · exact h
  · exact h
  · exact h

theorem Collections.endCopyWrite {s : State} (h : Collections s) (done : Bool) : Collections (s.endCopyWrite done) := by
  unfold State.endCopyWrite
  split
  · exact iteInduction (fun _ => h.commit _) fun _ => h.failMigration _ _ _
  · exact h
  · exact h
  · exact h

theorem Collections.endOperation {s : State} (h : Collections s) (n : SlotNumber) (q : Requester) (x : Ending) :
    Collections (s.endOperation n q x) := by
  unfold State.endOperation
  refine (Collections.quiesceEnd ?_).relook
  cases q with
  | entry p t =>
    simp only []
    split
    · exact h.endEntry _ _
    · exact h
  | repair home => exact h.endRepair _ _
  | scrub => exact h.endScrubRead _
  | copyRead => exact h.endCopyRead _
  | copyWrite => exact h.endCopyWrite _

theorem Collections.complete {s : State} (h : Collections s) (n : SlotNumber) (status : CompletionStatus) :
    Collections (s.complete n status) := by
  unfold State.complete
  split
  · exact h.offer _
  · exact (h.setSlot _ _).offer _
  · unfold State.completeBusy
    split
    · exact ((h.setSlot n .free).withDraws _).endOperation _ _ _
    · refine Collections.endOperation ?_ _ _ _
      exact iteInduction (fun _ => h.setSlot _ _) fun _ => (h.setSlot _ _).offer _

theorem Collections.expire {s : State} (h : Collections s) (n : SlotNumber) : Collections (s.expire n) := by
  unfold State.expire
  split
  · exact (((h.setSlot _ _).bump _).offer _).endOperation _ _ _
  · exact h
  · exact h

/-! ## Takes, grants and the countdown -/

theorem Collections.takeHead {s : State} (h : Collections s) : Collections s.takeHead := by
  unfold State.takeHead
  cases hsparing : s.sparing with
  | nil => exact h
  | cons r rest =>
    have hlength := h.sparing
    rw [hsparing, List.length_cons] at hlength
    have hrest : Collections { s with sparing := rest } := h.update (sparing := .inr (by simp only []; omega))
    simp only []
    split
    · exact hrest.offer _
    · split
      · exact hrest
      · unfold State.takeWithSpare
        exact hrest.update (queue := .inr (by simpa using hrest.queue.sublist List.filter_sublist))

/-- R135: the pass-over count stops at 32. -/
theorem account_passOver_le (m : MemoryPort) (c : Candidate) (b : Bool) (h : m.passOver ≤ 32) :
    (m.account c b).passOver ≤ 32 := by
  have hlimit : Config.passOverLimit = 32 := rfl
  unfold MemoryPort.account
  split
  · cases b <;> simp [hlimit, h]
  · exact Nat.zero_le _
  · exact h

theorem issueHead_queue_sublist (r : Repairs) (n : SlotNumber) : (r.issueHead n).queue.Sublist r.queue := by
  unfold Repairs.issueHead
  split
  · exact List.Sublist.refl _
  · rename_i h
    rw [h]
    exact List.sublist_cons_self _ _

theorem Collections.recordIssue {s : State} (h : Collections s) (c : Candidate) (n : SlotNumber) :
    Collections (s.recordIssue c n) := by
  unfold State.recordIssue
  split
  · exact h.update
  · exact h.update (queue := .inr (h.queue.sublist (issueHead_queue_sublist _ _)))
  · exact h.update
  · exact h.update
  · exact h.update

theorem Collections.grantTo {s : State} (h : Collections s) (c : Candidate) (n : SlotNumber) :
    Collections (s.grantTo c n) := by
  have hmemory : Collections { s with memory := s.memory.account c s.scrubChoice.isSome } :=
    h.update (passOver := .inr (account_passOver_le _ _ _ h.passOver))
  refine (Collections.recordIssue ?_ c n).relook
  exact (hmemory.setSlot _ _).withOut _

theorem Collections.countdownExpiry {s : State} (h : Collections s) : Collections s.countdownExpiry := by
  have hloaded : Collections { s with scrub := { s.scrub with countdown := s.cfg.scrubInterval } } := h.update
  unfold State.countdownExpiry
  refine iteInduction (fun _ => Collections.createScrubRead ?_) fun _ => hloaded
  exact iteInduction (fun _ => hloaded.advanceCursor) fun _ => hloaded

/-! ## The ports and the configuration -/

theorem HeldLaw.setHeld {s : State} (h : HeldLaw s) (p : Port) (r : Option Request) (hr : ∀ x ∈ r, x.port = p) :
    HeldLaw (s.setHeld p r) := by
  cases p with
  | u0 => exact ⟨hr, h.2⟩
  | u1 => exact ⟨h.1, hr⟩

/-- A state with other held requests, each its own port's. -/
theorem Collections.withPorts {s : State} (h : Collections s) (p : Port) (r : Option Request)
    (hr : ∀ x ∈ r, x.port = p) : Collections (s.setHeld p r) where
  queue := by simpa using h.queue
  suspects := by simpa using h.suspects
  sparing := by simpa using h.sparing
  events := by simpa using h.events
  passOver := by simpa using h.passOver
  cfg := by
    unfold ConfigLaw
    rw [(s.setHeld_cfg p r)]
    exact h.cfg
  held := h.held.setHeld p r hr

theorem Collections.present {s : State} (h : Collections s) (r : Request) : Collections (s.present r) := by
  have hnone : Collections (s.setHeld r.port none) := h.withPorts _ _ (by simp)
  have hanswered (status : ResponseStatus) : Collections ((s.setHeld r.port none).respond r.port ⟨r.tag, status, []⟩) :=
    hnone.update
  unfold State.present
  split
  · exact hnone.offer _
  · exact h.withPorts _ _ (by simp)
  · exact hanswered _
  · exact (hanswered _).offer _
  · exact (hanswered _).offer _
  · exact hanswered _
  · exact hnone.update

theorem Collections.withConfig {s : State} (h : Collections s) (c : Configuration)
    (hc : 16 ≤ c.installedLog2 ∧ c.installedLog2 ≤ 30 ∧ c.spareLines ≤ 128 ∧ 1 ≤ c.spareThreshold ∧
      c.spareThreshold ≤ 15 ∧ c.tickShift ≤ 7 ∧ c.scrubInterval ≤ 65535 ∧ c.downstreamTimeout ≤ 255)
    (hthreshold : c.spareThreshold = s.cfg.spareThreshold) : Collections { s with cfg := c } where
  queue := h.queue
  suspects := by
    simp only [hthreshold]
    exact h.suspects
  sparing := h.sparing
  events := h.events
  passOver := h.passOver
  cfg := hc
  held := h.held

theorem Collections.configure {s t : State} (ht : ConfigureEffect s t) (h : Collections s) : Collections t := by
  obtain ⟨hlow, hhigh, hspares, hone, hfifteen, hshift, hinterval, htimeout⟩ := h.cfg
  have hcleared (c : Configuration) (hsame : Collections { s with cfg := c }) :
      Collections (State.lineCountChanged { s with cfg := c }) :=
    ⟨hsame.queue, suspectListLaw_nil _, Nat.zero_le _, hsame.events, hsame.passOver, hsame.cfg, hsame.held⟩
  cases ht with
  | unchanged => exact h
  | installedLines v _ hv₁ hv₂ _ =>
    exact hcleared _ (h.withConfig _ ⟨hv₁, hv₂, hspares, hone, hfifteen, hshift, hinterval, htimeout⟩ rfl)
  | spareLines v _ hv _ =>
    exact hcleared _ (h.withConfig _ ⟨hlow, hhigh, hv, hone, hfifteen, hshift, hinterval, htimeout⟩ rfl)
  | spareThreshold v _ hv₁ hv₂ =>
    exact ⟨h.queue, suspectListLaw_nil _, h.sparing, h.events, h.passOver,
      ⟨hlow, hhigh, hspares, hv₁, hv₂, hshift, hinterval, htimeout⟩, h.held⟩
  | tickShift v _ hv =>
    have hset := h.withConfig { s.cfg with tickShift := v }
      ⟨hlow, hhigh, hspares, hone, hfifteen, hv, hinterval, htimeout⟩ rfl
    exact hset.update
  | scrubInterval v _ hv =>
    exact h.withConfig _ ⟨hlow, hhigh, hspares, hone, hfifteen, hshift, hv, htimeout⟩ rfl
  | downstreamTimeout v _ hv =>
    exact h.withConfig _ ⟨hlow, hhigh, hspares, hone, hfifteen, hshift, hinterval, hv⟩ rfl
  | haltedPolicy v _ => exact h.withConfig _ h.cfg rfl
  | repairEnable v _ => exact h.withConfig _ h.cfg rfl
  | eventMask v _ => exact h.withConfig _ h.cfg rfl
  | alertEnable v _ => exact h.withConfig _ h.cfg rfl

theorem Collections.reset : Collections .reset := by
  rw [collections_iff]
  decide

/-- R169: the defaults are lawful, and the requests that stay presented are their ports'. -/
theorem Collections.atDefault {s : State} (h : Collections s) (pin : ResetPin) : Collections (s.atDefault pin) where
  queue := Collections.reset.queue
  suspects := Collections.reset.suspects
  sparing := Collections.reset.sparing
  events := Collections.reset.events
  passOver := Collections.reset.passOver
  cfg := Collections.reset.cfg
  held := h.held

/-! ## Service Control and the timebase -/

theorem Collections.execute {s : State} (h : Collections s) (c : DrainCommand) (u : Bool) :
    Collections (s.execute c u) := h.update

theorem Collections.drainResult {s : State} (h : Collections s) (c : DrainCommand) (code : Byte) :
    Collections (s.drainResult c code) := h.update

theorem emitTick_passOver (s : State) : s.emitTick.memory.passOver = s.memory.passOver := by
  unfold State.emitTick State.tickSlots
  simp only [State.tickCountdown_frame]
  split <;> rfl

/-- R135: a scrub read that goes before its grant returns the pass-over count to 0. -/
theorem Collections.abandonScrub {s : State} (h : Collections s) : Collections s.abandonScrub := by
  unfold State.abandonScrub
  split
  · exact h.update (passOver := .inr (Nat.zero_le _))
  · exact h.update
  · exact h.update

theorem Collections.settleMigration {s : State} (h : Collections s) : Collections s.settleMigration := h.update

theorem Collections.beginRestart {s : State} (h : Collections s) : Collections s.beginRestart := by
  have habandoned : Collections (State.abandonRepairs (State.abandonEntries { s with service := .aborting })) :=
    h.update (queue := .inr ⟨by simp, by simp⟩)
  exact habandoned.abandonScrub.settleMigration.relook

/-! ## Every action -/

theorem collections_kept : KeptByActions Collections where
  out _ _ h := h.update
  pending _ _ h := h.update
  draws _ _ h := h.update
  frameClosed _ _ h := h.update
  atDefault _ pin h := h.atDefault pin
  hold _ _ _ _ _ _ h := h.update
  overrun _ h := h.update
  delivered _ _ h := h.update
  setHeld _ r h := h.withPorts _ _ (by simp)
  present _ r h := h.present r
  grantTo _ c n _ _ h := h.grantTo c n
  complete _ n status h := h.complete n status
  expire _ n h := h.expire n
  countdownExpiry _ _ h := h.countdownExpiry
  takeHead _ _ h := h.takeHead
  emitTick _ h := h.update (passOver := .inl (emitTick_passOver _))
  microseconds _ _ h := h.update
  beginStart _ _ h := h.update
  beginStop _ _ _ h := h.update
  endStop _ _ h := h.update
  beginRestart _ u h := h.beginRestart.execute .restart u
  endRestart _ _ h :=
    Collections.drainResult (Collections.offer (h.update (suspects := .inr (suspectListLaw_nil _))
      (sparing := .inr (Nat.zero_le _))) _) _ _
  configure _ _ ht h := h.configure ht
  loadMap _ _ _ _ _ _ _ _ h := h.update
  loadRetired _ _ _ _ h := h.update
  requestSpare _ _ _ h := h.offerSparing _ _
  takeEvent _ h := h.update (events := .inr h.events.tail)
  clearCounters _ h := h.update

end Sys2Proof.Machine

namespace Sys2Proof.Proofs

open Sys2Proof.Machine

/-- Settles O56: every action keeps the laws of the collections, so every step does. -/
theorem collectionsKeepTheirLaws : Obligations.CollectionsKeepTheirLaws := by
  intro s s' hlaws hstep
  rw [← collections_iff] at hlaws ⊢
  exact collections_kept.step s s' hstep hlaws

end Sys2Proof.Proofs
end

section
/-! PROOFS. The per-line exclusion (7.3, R131): a grant is made only to an eligible requester, so no two BUSY operations
of one physical line stand side by side unless both are line reads. -/

-- One declaration after the other: side by side, the threads with their stacks outgrow the memory of the check.
set_option Elab.async false

namespace Sys2Proof.Machine

/-! ## The slots under the operations -/

theorem State.setSlot_slot (s : State) (n : SlotNumber) (v : Slot) (m : SlotNumber) :
    (s.setSlot n v).memory.slots[m] = if n = m then v else s.memory.slots[m] := by
  simp [State.setSlot, Vector.getElem_set, Fin.ext_iff]

theorem MemoryPort.account_slots (m : MemoryPort) (c : Candidate) (b : Bool) : (m.account c b).slots = m.slots := by
  unfold MemoryPort.account
  split <;> rfl

/-- R130: of a grant the slots keep the granted operation in the slot it takes. -/
theorem State.grantTo_slot (s : State) (c : Candidate) (n m : SlotNumber) :
    (s.grantTo c n).memory.slots[m] =
      if n = m then .busy c.kind (s.physicalLine c.location) c.location c.requester 0 else s.memory.slots[m] := by
  have hmemory : (s.grantTo c n).memory =
      (State.setSlot { s with memory := s.memory.account c s.scrubChoice.isSome } n
        (.busy c.kind (s.physicalLine c.location) c.location c.requester 0)).memory := by
    simp [State.grantTo, State.physicalLine, State.visibleLines, State.installedLines]
  rw [hmemory, State.setSlot_slot, MemoryPort.account_slots]

theorem State.freeSlot_spec (s : State) (n : SlotNumber) (h : s.freeSlot = some n) : s.memory.slots[n] = .free := by
  have hfree : s.memory.slots[n].isFree = true := List.find?_some (p := fun n : SlotNumber => s.memory.slots[n].isFree) h
  cases hslot : s.memory.slots[n] with
  | free => rfl
  | _ => cases hslot ▸ hfree

/-! ## Who is chosen -/

theorem eligible_of_filter_eq_some (s : State) (o : Option Candidate) (c : Candidate)
    (h : o.filter s.eligible = some c) : s.eligible c = true := (Option.filter_eq_some_iff.1 h).2

theorem eligible_of_eligibleEntry (s : State) (e : Entry) (c : Candidate) (h : s.eligibleEntry e = some c) :
    s.eligible c = true := eligible_of_filter_eq_some s _ c h

theorem eligible_of_portCandidate (s : State) (p : Port) (c : Candidate) (h : s.portCandidate p = some c) :
    s.eligible c = true := by
  obtain ⟨e, -, he⟩ := Option.bind_eq_some_iff.1 h
  exact eligible_of_eligibleEntry s e c he

theorem eligible_of_portChoice (s : State) (c : Candidate) (h : s.portChoice = some c) : s.eligible c = true := by
  unfold State.portChoice at h
  split at h
  · rename_i a b ha hb
    split_ifs at h
    · cases h; exact eligible_of_portCandidate s _ _ hb
    · cases h; exact eligible_of_portCandidate s _ _ ha
  · rename_i a ha hb
    cases h; exact eligible_of_portCandidate s _ _ ha
  · rename_i b ha hb
    cases h; exact eligible_of_portCandidate s _ _ hb
  · cases h

/-- R130: whoever is chosen is eligible. -/
theorem eligible_of_chooseGrant (s : State) (c : Candidate) (h : s.chooseGrant = some c) : s.eligible c = true := by
  unfold State.chooseGrant at h
  split_ifs at h
  rcases Option.or_eq_some_iff.1 h with h | ⟨-, h⟩
  · exact eligible_of_filter_eq_some s _ c h
  rcases Option.or_eq_some_iff.1 h with h | ⟨-, h⟩
  · obtain ⟨e, -, he⟩ := Option.bind_eq_some_iff.1 h
    exact eligible_of_eligibleEntry s e c he
  rcases Option.or_eq_some_iff.1 h with h | ⟨-, h⟩
  · exact eligible_of_filter_eq_some s _ c h
  rcases Option.or_eq_some_iff.1 h with h | ⟨-, h⟩
  · unfold State.promotedScrub at h
    split_ifs at h
    exact eligible_of_filter_eq_some s _ c h
  rcases Option.or_eq_some_iff.1 h with h | ⟨-, h⟩
  · exact eligible_of_portChoice s c h
  · exact eligible_of_filter_eq_some s _ c h

theorem mem_slotNumbers (n : SlotNumber) : n ∈ slotNumbers := by fin_cases n <;> decide

theorem excludes_of_eligible (s : State) (c : Candidate) (h : s.eligible c = true) (n : SlotNumber) :
    s.memory.slots[n].excludes c.kind (s.physicalLine c.location) = false := by
  simpa using List.all_eq_true.1 h n (mem_slotNumbers n)

/-! ## Compatible slots -/

/-- The operation of a BUSY slot, without what the exclusion does not look at. -/
def Slot.operation? : Slot → Option (OpKind × Nat)
  | .busy kind line _ _ _ => some (kind, line)
  | .free => none
  | .orphaned _ _ _ => none

theorem compatible_iff (a b : Slot) :
    a.compatible b = true ↔ ∀ k l k', a.operation? = some (k, l) → b.operation? = some (k', l) →
      k = .lineRead ∧ k' = .lineRead := by
  cases a <;> cases b <;> simp [Slot.compatible, Slot.operation?]
  rename_i k l _ _ _ k' l' _ _ _
  by_cases h : l = l' <;> simp [h, eq_comm]

/-- R131 by the operations of the slots alone. -/
theorem exclusionLaw_iff (s : State) :
    ExclusionLaw s ↔ ∀ m n : SlotNumber, m ≠ n → ∀ k l k', s.memory.slots[m].operation? = some (k, l) →
      s.memory.slots[n].operation? = some (k', l) → k = .lineRead ∧ k' = .lineRead := by
  simp only [ExclusionLaw, compatible_iff]

/-- Slots that lose operations and gain none stay apart. -/
theorem ExclusionLaw.of_operations {s t : State} (h : ExclusionLaw s)
    (ht : ∀ n : SlotNumber, t.memory.slots[n].operation? = none ∨
      t.memory.slots[n].operation? = s.memory.slots[n].operation?) : ExclusionLaw t := by
  rw [exclusionLaw_iff] at h ⊢
  intro m n hmn k l k' hm hn
  have hm' := (ht m).resolve_left (by rw [hm]; simp)
  have hn' := (ht n).resolve_left (by rw [hn]; simp)
  exact h m n hmn k l k' (hm' ▸ hm) (hn' ▸ hn)

theorem ExclusionLaw.of_slots {s t : State} (h : ExclusionLaw s) (ht : t.memory.slots = s.memory.slots := by simp) :
    ExclusionLaw t :=
  h.of_operations fun n => .inr (by rw [ht])

theorem ExclusionLaw.setSlot {s : State} (h : ExclusionLaw s) (n : SlotNumber) (v : Slot) (hv : v.operation? = none) :
    ExclusionLaw (s.setSlot n v) := by
  refine h.of_operations fun m => ?_
  rw [State.setSlot_slot]
  split_ifs
  · exact .inl hv
  · exact .inr rfl

/-- An operation that no slot excludes may stand beside what the slots hold. -/
theorem lineRead_of_not_excludes (kind : OpKind) (line : Nat) (v : Slot) (k : OpKind)
    (h : v.excludes kind line = false) (hv : v.operation? = some (k, line)) : kind = .lineRead ∧ k = .lineRead := by
  cases v with
  | busy k' l q r count =>
    simp only [Slot.operation?, Option.some.injEq, Prod.mk.injEq] at hv
    obtain ⟨rfl, rfl⟩ := hv
    cases kind <;> cases k' <;> simp_all [Slot.excludes]
  | free => cases hv
  | orphaned _ _ _ => cases hv

/-- R130, R131: the granted operation is one that no other slot excludes. -/
theorem ExclusionLaw.grantTo {s : State} (h : ExclusionLaw s) (c : Candidate) (n : SlotNumber)
    (hc : s.eligible c = true) : ExclusionLaw (s.grantTo c n) := by
  rw [exclusionLaw_iff] at h ⊢
  have hother := excludes_of_eligible s c hc
  intro m m' hmm k l k' hm hm'
  rw [State.grantTo_slot] at hm hm'
  split_ifs at hm hm' with h₁ h₂ h₂
  · exact absurd (h₁.symm.trans h₂) hmm
  · obtain ⟨rfl, rfl⟩ := Prod.mk.inj (Option.some.inj hm)
    exact lineRead_of_not_excludes _ _ _ _ (hother m') hm'
  · obtain ⟨rfl, rfl⟩ := Prod.mk.inj (Option.some.inj hm')
    exact (lineRead_of_not_excludes _ _ _ _ (hother m) hm).symm
  · exact h m m' hmm k l k' hm hm'

theorem ExclusionLaw.complete {s : State} (h : ExclusionLaw s) (n : SlotNumber) (status : CompletionStatus) :
    ExclusionLaw (s.complete n status) := by
  have hfreed : ExclusionLaw (s.setSlot n .free) := h.setSlot n .free rfl
  unfold State.complete
  split
  · exact h.of_slots
  · exact hfreed.of_slots
  · refine hfreed.of_slots ?_
    unfold State.completeBusy
    split
    · simp
    · simp only [State.endOperation_frame]
      split <;> simp

theorem ExclusionLaw.expire {s : State} (h : ExclusionLaw s) (n : SlotNumber) : ExclusionLaw (s.expire n) := by
  unfold State.expire
  split
  · rename_i kind line l q count _
    exact (h.setSlot n (.orphaned kind line l) rfl).of_slots
  · exact h
  · exact h

theorem Slot.tick_operation? (v : Slot) : v.tick.operation? = v.operation? := by cases v <;> rfl

theorem perChunk_getElem {α : Type} (f : Fin 8 → α) (n : Fin 8) : (perChunk f)[n] = f n := by fin_cases n <;> rfl

theorem ExclusionLaw.emitTick {s : State} (h : ExclusionLaw s) : ExclusionLaw s.emitTick := by
  have hticked : ExclusionLaw s.tickSlots := by
    refine h.of_operations fun n => .inr ?_
    unfold State.tickSlots
    split
    · rfl
    · simp only [perChunk_getElem, Slot.tick_operation?]
  exact hticked.of_slots (by simp [State.emitTick])

theorem abandonScrub_slots (s : State) : s.abandonScrub.memory.slots = s.memory.slots := by
  unfold State.abandonScrub
  split <;> rfl

theorem beginRestart_slots (s : State) : s.beginRestart.memory.slots = s.memory.slots := by
  simp [State.beginRestart, abandonScrub_slots]

theorem exclusion_kept : KeptByActions ExclusionLaw where
  atDefault _ _ _ := by
    rw [exclusionLaw_iff]
    intro m n _ k l k' hm
    have hfree : State.reset.memory.slots[m] = .free := by simp [State.reset]
    exact absurd (hfree ▸ hm : Slot.operation? .free = _) (by simp [Slot.operation?])
  setHeld _ _ h := h.of_slots
  present _ _ h := h.of_slots
  grantTo s c n _ hc h := h.grantTo c n (eligible_of_chooseGrant s c hc)
  complete _ n status h := h.complete n status
  expire _ n h := h.expire n
  countdownExpiry _ _ h := h.of_slots
  takeHead _ _ h := h.of_slots
  emitTick _ h := h.emitTick
  beginStart _ _ h := h
  beginStop _ _ _ h := h.of_slots
  endStop _ _ h := h.of_slots
  beginRestart s _ h := h.of_slots (beginRestart_slots s)
  endRestart _ _ h := h.of_slots
  configure s t ht h := h.of_slots (by cases ht <;> rfl)
  loadMap _ _ _ _ _ _ _ _ h := h
  loadRetired _ _ _ _ h := h
  requestSpare _ _ _ h := h.of_slots

end Sys2Proof.Machine

namespace Sys2Proof.Proofs

open Sys2Proof.Machine

/-- Settles O57: the one action that makes a slot BUSY is the grant, to a requester that the exclusion does not hold. -/
theorem busyOperationsStayApart : Obligations.BusyOperationsStayApart := by
  intro s s' hlaw hstep
  exact exclusion_kept.step s s' hstep hlaw

end Sys2Proof.Proofs
end

section
/-! PROOFS. The Remap Table and the Spare Pool (5.1, 5.2): what the lookups find, which spares the table names, and the
laws of the two under the set of one entry. -/

-- One declaration after the other: side by side, the threads with their stacks outgrow the memory of the check.
set_option Elab.async false

namespace Sys2Proof.Machine

/-! ## Lookups (R85, R86) -/

theorem mem_entryNumbers (i : EntryNumber) : i ∈ entryNumbers := List.mem_finRange i

theorem State.setMap_entry (s : State) (i : EntryNumber) (e : MapEntry) (j : EntryNumber) :
    (s.setMap i e).map[j] = if i = j then e else s.map[j] := by
  simp [State.setMap, Vector.getElem_set, Fin.ext_iff]

theorem State.mapIndex_home (s : State) (h : Nat) (i : EntryNumber) (hi : s.mapIndex h = some i) :
    s.map[i].home? = some h := by
  have := List.find?_some (p := fun i : EntryNumber => s.map[i].home? == some h) hi
  exact eq_of_beq this

theorem State.mapIndex_eq_none_iff (s : State) (h : Nat) :
    s.mapIndex h = none ↔ ∀ j : EntryNumber, s.map[j].home? ≠ some h := by
  unfold State.mapIndex
  rw [List.find?_eq_none]
  exact ⟨fun hnone j => by simpa using hnone j (mem_entryNumbers j), fun hnone j _ => by simpa using hnone j⟩

/-- R85: no line is named twice, so the entry found is the one that names the line. -/
theorem HomesLaw.mapIndex {s : State} (hlaw : HomesLaw s) (i : EntryNumber) (h : Nat) (hi : s.map[i].home? = some h) :
    s.mapIndex h = some i := by
  cases hfound : s.mapIndex h with
  | none => exact absurd hi ((s.mapIndex_eq_none_iff h).1 hfound i)
  | some j =>
    have hj := s.mapIndex_home h j hfound
    by_contra hne
    rcases hlaw i j (fun e => hne (e ▸ rfl)) with hnone | hdiff
    · rw [hnone] at hi
      cases hi
    · exact hdiff (hi.trans hj.symm)

theorem HomesLaw.lookup {s : State} (hlaw : HomesLaw s) (i : EntryNumber) (h : Nat) (hi : s.map[i].home? = some h) :
    s.lookup h = s.map[i] := by
  simp only [State.lookup, hlaw.mapIndex i h hi]

theorem State.lookup_of_absent (s : State) (h : Nat) (hi : ∀ j : EntryNumber, s.map[j].home? ≠ some h) :
    s.lookup h = .free := by
  simp only [State.lookup, (s.mapIndex_eq_none_iff h).2 hi]

/-- R87: a line that moves has a MOVING entry. -/
theorem State.exists_moving_of_isMoving (s : State) (h : Nat) (hm : s.isMoving h = true) :
    ∃ i : EntryNumber, s.map[i].isMoving = true ∧ s.map[i].home? = some h := by
  unfold State.isMoving State.lookup at hm
  cases hindex : s.mapIndex h with
  | none => simp [hindex] at hm
  | some i =>
    refine ⟨i, ?_, s.mapIndex_home h i hindex⟩
    simp only [hindex] at hm
    cases hentry : s.map[i] with
    | moving _ _ _ => rfl
    | _ => simp only [hentry] at hm; cases hm

theorem State.isMoving_eq_false (s : State) (h : Nat) (hm : ∀ i : EntryNumber, s.map[i].isMoving = false) :
    s.isMoving h = false := by
  rw [Bool.eq_false_iff]
  intro hmoving
  obtain ⟨i, hi, -⟩ := s.exists_moving_of_isMoving h hmoving
  rw [hm i] at hi
  cases hi

theorem State.isMoving_congr {s t : State} (ht : t.map = s.map) (h : Nat) : t.isMoving h = s.isMoving h := by
  simp only [State.isMoving, State.lookup, State.mapIndex, ht]

theorem State.lowestFree_spec (s : State) (i : EntryNumber) (h : s.lowestFree = some i) : s.map[i] = .free := by
  have := List.find?_some (p := fun i : EntryNumber => s.map[i] == .free) h
  exact eq_of_beq this

theorem State.mapAllFree_iff (s : State) : s.mapAllFree = true ↔ ∀ i : EntryNumber, s.map[i] = .free := by
  simp only [State.mapAllFree, List.all_eq_true, mem_entryNumbers, true_implies, beq_iff_eq]

/-- R89: the lowest-numbered AVAILABLE spare. -/
theorem State.lowestAvailable_eq_some_iff (s : State) (n : Nat) : s.lowestAvailable = some n ↔ IsLowestAvailable s n := by
  unfold State.lowestAvailable
  rw [List.findIdx?_eq_some_iff_getElem]
  constructor
  · rintro ⟨hn, havailable, hbelow⟩
    refine ⟨by simpa [List.getElem?_eq_getElem hn] using havailable, fun m hm hsome => ?_⟩
    obtain ⟨hlt, heq⟩ := List.getElem?_eq_some_iff.1 hsome
    simpa [heq] using hbelow m hm
  · rintro ⟨havailable, hbelow⟩
    obtain ⟨hlt, heq⟩ := List.getElem?_eq_some_iff.1 havailable
    refine ⟨hlt, by simp [heq], fun m hm => ?_⟩
    have := hbelow m hm
    rw [List.getElem?_eq_getElem (hm.trans hlt)] at this
    simpa using this

theorem State.lowestAvailable_eq_none_iff (s : State) :
    s.lowestAvailable = none ↔ ∀ k : Nat, s.spares[k]? ≠ some .available := by
  unfold State.lowestAvailable
  rw [List.findIdx?_eq_none_iff]
  constructor
  · intro h k hk
    simpa using h _ (List.mem_of_getElem? hk)
  · intro h v hv
    obtain ⟨k, hk⟩ := List.getElem?_of_mem hv
    simpa using fun hvalue : v = .available => h k (hvalue ▸ hk)

/-! ## The spares that the table names (R88) -/

theorem State.mem_namedSpares (s : State) (k : Nat) : k ∈ s.namedSpares ↔ ∃ i : EntryNumber, k ∈ s.map[i].names := by
  simp only [State.namedSpares, List.mem_flatMap, mem_entryNumbers, true_and]

theorem State.namedSpares_nodup_iff (s : State) :
    s.namedSpares.Nodup ↔ (∀ i : EntryNumber, s.map[i].names.Nodup) ∧
      ∀ i j : EntryNumber, i ≠ j → ∀ k ∈ s.map[i].names, k ∉ s.map[j].names := by
  unfold State.namedSpares
  rw [List.nodup_flatMap]
  refine and_congr ⟨fun h i => h i (mem_entryNumbers i), fun h i _ => h i⟩ ?_
  constructor
  · intro hpairs i j hij k hi hj
    have : Std.Symm (Function.onFun List.Disjoint fun i : EntryNumber => s.map[i].names) := ⟨fun _ _ hd => hd.symm⟩
    exact hpairs.forall (mem_entryNumbers i) (mem_entryNumbers j) hij hi hj
  · intro h
    exact (List.nodup_finRange 128).imp fun hij k hi hj => h _ _ hij k hi hj

/-- R88 said entry by entry. -/
theorem poolLaw_iff (s : State) :
    PoolLaw s ↔ s.spares.length = s.cfg.spareLines ∧ (∀ i : EntryNumber, s.map[i].names.Nodup) ∧
      (∀ i j : EntryNumber, i ≠ j → ∀ k ∈ s.map[i].names, k ∉ s.map[j].names) ∧
      ∀ k : Nat, s.spares[k]? = some .allocated ↔ ∃ i : EntryNumber, k ∈ s.map[i].names := by
  unfold PoolLaw
  rw [State.namedSpares_nodup_iff]
  simp only [State.mem_namedSpares]
  constructor
  · rintro ⟨hlength, ⟨hnodup, hapart⟩, hallocated, hnamed⟩
    refine ⟨hlength, hnodup, hapart, fun k => ⟨fun hk => ?_, hallocated k⟩⟩
    exact hnamed k (List.getElem?_eq_some_iff.1 hk).1 hk
  · rintro ⟨hlength, hnodup, hapart, hiff⟩
    exact ⟨hlength, ⟨hnodup, hapart⟩, fun k hk => (hiff k).2 hk, fun k _ hk => (hiff k).1 hk⟩

/-! ## The laws under the set of one entry -/

theorem HomesLaw.setMap {s : State} (h : HomesLaw s) (i : EntryNumber) (e : MapEntry)
    (he : ∀ x ∈ e.home?, ∀ j : EntryNumber, j ≠ i → s.map[j].home? ≠ some x) : HomesLaw (s.setMap i e) := by
  intro a b hab
  rw [State.setMap_entry, State.setMap_entry]
  split_ifs with ha hb hb
  · exact absurd (ha.symm.trans hb) hab
  · cases hhome : e.home? with
    | none => exact .inl rfl
    | some x => exact .inr fun heq => he x hhome b (fun hbi => hb hbi.symm) heq.symm
  · cases hhome : s.map[a].home? with
    | none => exact .inl rfl
    | some x => exact .inr fun heq => he x heq.symm a (fun hai => ha hai.symm) hhome
  · exact h a b hab

/-- An entry set to one with the same home line, or with none. -/
theorem HomesLaw.setMap_same {s : State} (h : HomesLaw s) (i : EntryNumber) (e : MapEntry)
    (he : e.home? = none ∨ e.home? = s.map[i].home?) : HomesLaw (s.setMap i e) := by
  refine h.setMap i e fun x hx j hj hjx => ?_
  rcases he with he | he
  · rw [he] at hx
    cases hx
  · rw [he] at hx
    rcases h j i hj with hnone | hdiff
    · rw [hnone] at hjx
      cases hjx
    · exact hdiff (hjx.trans hx.symm)

theorem spares_set_getElem? (l : List SpareState) (k : Nat) (v : SpareState) (hk : k < l.length) (m : Nat) :
    (l.set k v)[m]? = if k = m then some v else l[m]? := by
  rw [List.getElem?_set]
  split_ifs with h
  · subst h
    simp
  · rfl

/-- R88, R92, R95: an entry that comes to name one spare more, which was AVAILABLE and becomes ALLOCATED. -/
theorem PoolLaw.allocate {s : State} (h : PoolLaw s) (i : EntryNumber) (e : MapEntry) (k : Nat)
    (hk : s.spares[k]? = some .available) (hnodup : k ∉ s.map[i].names → e.names.Nodup)
    (hnames : ∀ x, x ∈ e.names ↔ x = k ∨ x ∈ s.map[i].names) : PoolLaw ((s.setMap i e).setSpare k .allocated) := by
  rw [poolLaw_iff] at h ⊢
  obtain ⟨hlength, hnd, hapart, hiff⟩ := h
  have hlt : k < s.spares.length := (List.getElem?_eq_some_iff.1 hk).1
  have hunnamed : ∀ j : EntryNumber, k ∉ s.map[j].names := fun j hj => by
    have := (hiff k).2 ⟨j, hj⟩
    rw [hk] at this
    cases this
  have hentry : ∀ j : EntryNumber, ((s.setMap i e).setSpare k .allocated).map[j] = if i = j then e else s.map[j] :=
    s.setMap_entry i e
  refine ⟨by simpa using hlength, fun j => ?_, fun a b hab x hxa hxb => ?_, fun x => ?_⟩
  · rw [hentry]
    split_ifs
    · exact hnodup (hunnamed i)
    · exact hnd j
  · rw [hentry] at hxa hxb
    split_ifs at hxa hxb with ha hb hb
    · exact hab (ha.symm.trans hb)
    · rcases (hnames x).1 hxa with rfl | hx
      · exact hunnamed b hxb
      · exact hapart i b hb x hx hxb
    · rcases (hnames x).1 hxb with rfl | hx
      · exact hunnamed a hxa
      · exact hapart a i (Ne.symm ha) x hxa hx
    · exact hapart a b hab x hxa hxb
  · simp only [State.setSpare_spares, State.setMap_spares, spares_set_getElem? _ _ _ hlt, hentry]
    split_ifs with hkx
    · subst hkx
      exact ⟨fun _ => ⟨i, by simpa using (hnames k).2 (.inl rfl)⟩, fun _ => rfl⟩
    · rw [hiff x]
      constructor
      · rintro ⟨j, hj⟩
        refine ⟨j, ?_⟩
        split_ifs with hij
        · subst hij
          exact (hnames x).2 (.inr hj)
        · exact hj
      · rintro ⟨j, hj⟩
        split_ifs at hj with hij
        · exact ⟨i, ((hnames x).1 hj).resolve_left (Ne.symm hkx)⟩
        · exact ⟨j, hj⟩

/-- R88, R93, R94: an entry that names one spare less, which is no longer ALLOCATED. -/
theorem PoolLaw.release {s : State} (h : PoolLaw s) (i : EntryNumber) (e : MapEntry) (k : Nat) (v : SpareState)
    (hv : v ≠ .allocated) (hk : k ∈ s.map[i].names) (hnodup : e.names.Nodup)
    (hnames : ∀ x, x ∈ e.names ↔ x ≠ k ∧ x ∈ s.map[i].names) : PoolLaw ((s.setMap i e).setSpare k v) := by
  rw [poolLaw_iff] at h ⊢
  obtain ⟨hlength, hnd, hapart, hiff⟩ := h
  have hlt : k < s.spares.length := (List.getElem?_eq_some_iff.1 ((hiff k).2 ⟨i, hk⟩)).1
  have hentry : ∀ j : EntryNumber, ((s.setMap i e).setSpare k v).map[j] = if i = j then e else s.map[j] :=
    s.setMap_entry i e
  refine ⟨by simpa using hlength, fun j => ?_, fun a b hab x hxa hxb => ?_, fun x => ?_⟩
  · rw [hentry]
    split_ifs
    · exact hnodup
    · exact hnd j
  · rw [hentry] at hxa hxb
    split_ifs at hxa hxb with ha hb hb
    · exact hab (ha.symm.trans hb)
    · exact hapart i b hb x ((hnames x).1 hxa).2 hxb
    · exact hapart a i (Ne.symm ha) x hxa ((hnames x).1 hxb).2
    · exact hapart a b hab x hxa hxb
  · simp only [State.setSpare_spares, State.setMap_spares, spares_set_getElem? _ _ _ hlt, hentry]
    split_ifs with hkx
    · subst hkx
      constructor
      · intro hsome
        exact absurd (Option.some.inj hsome) hv
      · rintro ⟨j, hj⟩
        split_ifs at hj with hij
        · exact absurd rfl ((hnames k).1 hj).1
        · exact absurd hj (hapart i j hij k hk)
    · rw [hiff x]
      constructor
      · rintro ⟨j, hj⟩
        refine ⟨j, ?_⟩
        split_ifs with hij
        · subst hij
          exact (hnames x).2 ⟨Ne.symm hkx, hj⟩
        · exact hj
      · rintro ⟨j, hj⟩
        split_ifs at hj with hij
        · exact ⟨i, ((hnames x).1 hj).2⟩
        · exact ⟨j, hj⟩

/-- An entry that names the same spares as before. -/
theorem PoolLaw.setMap_same {s : State} (h : PoolLaw s) (i : EntryNumber) (e : MapEntry)
    (hnames : e.names = s.map[i].names) : PoolLaw (s.setMap i e) := by
  have hentry : ∀ j : EntryNumber, (s.setMap i e).map[j].names = s.map[j].names := fun j => by
    rw [State.setMap_entry]
    split_ifs with hij
    · rw [← hij, hnames]
    · rfl
  rw [poolLaw_iff] at h ⊢
  simpa only [hentry, State.setMap_spares, State.setMap_cfg] using h

/-- A spare that no entry names and that does not become ALLOCATED. -/
theorem PoolLaw.setSpare {s : State} (h : PoolLaw s) (k : Nat) (v : SpareState) (hv : v ≠ .allocated)
    (hk : s.spares[k]? ≠ some .allocated) : PoolLaw (s.setSpare k v) := by
  rw [poolLaw_iff] at h ⊢
  obtain ⟨hlength, hnd, hapart, hiff⟩ := h
  refine ⟨by simpa using hlength, hnd, hapart, fun x => ?_⟩
  have hmap : (s.setSpare k v).map = s.map := rfl
  rw [State.setSpare_spares, hmap, ← hiff x, List.getElem?_set]
  split_ifs with hkx hlt
  · subst hkx
    exact ⟨fun hsome => absurd (Option.some.inj hsome) hv, fun hsome => absurd hsome hk⟩
  · subst hkx
    simp [List.getElem?_eq_none (Nat.le_of_not_lt hlt)]
  · rfl

end Sys2Proof.Machine
end

section
/-! PROOFS. Map, pool, engine and Sparing Queue (5.1, 5.2, 6.1, 6.2.1): a take, a commit, a revert and the loads keep the
four in agreement. -/

-- One declaration after the other: side by side, the threads with their stacks outgrow the memory of the check.
set_option Elab.async false

namespace Sys2Proof.Machine

/-! ## The laws, component by component -/

/-- R87, R107: the entries that move are the one of the migration. -/
abbrev MigrationLaw (map : Vector MapEntry 128) (m : Option Migration) : Prop :=
  match m with
  | none => ∀ i : EntryNumber, map[i].isMoving = false
  | some m => map[m.entry] = .moving m.home m.old m.new ∧ ∀ i : EntryNumber, i ≠ m.entry → map[i].isMoving = false

/-- The laws of MapPoolAndEngineAgree (`mapAgreement_iff`). -/
structure MapAgreement (s : State) : Prop where
  homes : HomesLaw s
  pool : PoolLaw s
  migration : MigrationLaw s.map s.engine.migration?
  sparing : SparingLaw s

theorem mapAgreement_iff (s : State) : MapAgreement s ↔ MapLaw s ∧ SparingLaw s := by
  constructor
  · rintro ⟨hhomes, hpool, hengine, hsparing⟩
    exact ⟨⟨hhomes, hpool, hengine⟩, hsparing⟩
  · rintro ⟨⟨hhomes, hpool, hengine⟩, hsparing⟩
    exact ⟨hhomes, hpool, hengine, hsparing⟩

/-- The laws speak of the table, the pool, the engine's context and the queue alone. -/
theorem MapAgreement.update {s t : State} (h : MapAgreement s) (map : t.map = s.map := by simp)
    (spares : t.spares = s.spares := by simp) (cfg : t.cfg.spareLines = s.cfg.spareLines := by simp)
    (migration : t.engine.migration? = s.engine.migration? := by simp)
    (sparing : t.sparing.Sublist s.sparing := by simp) : MapAgreement t where
  homes := by
    unfold HomesLaw
    rw [map]
    exact h.homes
  pool := by
    unfold PoolLaw State.namedSpares
    rw [map, spares, cfg]
    exact h.pool
  migration := by
    rw [map, migration]
    exact h.migration
  sparing := by
    refine ⟨h.sparing.1.sublist sparing, fun r hr => ?_⟩
    rw [State.isMoving_congr map]
    exact h.sparing.2 r (sparing.subset hr)

/-- R98, R169: the laws of a table and a pool that are not in use. -/
theorem mapAgreement_of_unused (s : State) (hmap : ∀ i : EntryNumber, s.map[i] = .free)
    (hspares : ∀ v ∈ s.spares, v = .available) (hlength : s.spares.length = s.cfg.spareLines)
    (hengine : s.engine.migration? = none) (hsparing : s.sparing = []) : MapAgreement s where
  homes i j _ := .inl (by rw [hmap i]; rfl)
  pool := by
    rw [poolLaw_iff]
    refine ⟨hlength, fun i => by simp [hmap i, MapEntry.names], fun i j _ k hk => by simp [hmap i, MapEntry.names] at hk,
      fun k => ⟨fun hk => ?_, fun ⟨i, hi⟩ => by simp [hmap i, MapEntry.names] at hi⟩⟩
    cases hspares _ (List.mem_of_getElem? hk)
  migration := by
    rw [hengine]
    exact fun i => by rw [hmap i]; rfl
  sparing := by simp [SparingLaw, hsparing]

/-! ## Migration -/

/-- R107: with the engine IDLE no entry is MOVING, and so no line. -/
theorem MapAgreement.not_moving {s : State} (h : MapAgreement s) (hidle : s.engine.migration? = none) (i : EntryNumber) :
    s.map[i].isMoving = false := by
  have := h.migration
  rw [hidle] at this
  exact this i

/-- R107: the entry of the engine's context is MOVING, with the context's home line and targets. -/
theorem MapAgreement.entry_of_migration {s : State} (h : MapAgreement s) (m : Migration)
    (hm : s.engine.migration? = some m) :
    s.map[m.entry] = .moving m.home m.old m.new ∧ ∀ i : EntryNumber, i ≠ m.entry → s.map[i].isMoving = false := by
  have := h.migration
  rwa [hm] at this

/-- R92: the entry a take makes MOVING names the line already, or is FREE while no entry does. -/
theorem State.takeEntry_spec (s : State) (h : Nat) (i : EntryNumber) (old : OldTarget)
    (he : s.takeEntry h = some (i, old)) :
    (∃ a, s.map[i] = .active h a ∧ old = .spare a) ∨
      (s.map[i] = .free ∧ (∀ j : EntryNumber, s.map[j].home? ≠ some h) ∧ old = .home) := by
  unfold State.takeEntry at he
  cases hindex : s.mapIndex h with
  | none =>
    simp only [hindex, Option.map_eq_some_iff, Prod.mk.injEq] at he
    obtain ⟨j, hj, rfl, rfl⟩ := he
    exact .inr ⟨s.lowestFree_spec j hj, (s.mapIndex_eq_none_iff h).1 hindex, rfl⟩
  | some j =>
    simp only [hindex] at he
    have hhome := s.mapIndex_home h j hindex
    cases hentry : s.map[j] with
    | active home a =>
      simp only [hentry, Option.some.injEq, Prod.mk.injEq] at he
      obtain ⟨rfl, rfl⟩ := he
      rw [hentry] at hhome
      obtain rfl : home = h := Option.some.inj hhome
      exact .inl ⟨a, hentry, rfl⟩
    | moving _ _ _ => simp only [hentry] at he; cases he
    | free => simp only [hentry] at he; cases he

theorem quiesceEnd_migration? (s : State) : s.quiesceEnd.engine.migration? = s.engine.migration? := by
  unfold State.quiesceEnd
  cases hengine : s.engine with
  | quiesce m => by_cases hbusy : s.lineBusy m.home = true <;> simp [hbusy, hengine, Engine.migration?]
  | _ => simp [hengine]

/-- R92, R110: a take with a spare. -/
theorem MapAgreement.takeWithSpare {s : State} (h : MapAgreement s) (home n : Nat) (i : EntryNumber) (old : OldTarget)
    (hidle : s.engine.migration? = none) (hn : s.spares[n]? = some .available) (he : s.takeEntry home = some (i, old))
    (hsparing : ∀ r ∈ s.sparing, r.home ≠ home) : MapAgreement (s.takeWithSpare home i old n) := by
  have hentry := s.takeEntry_spec home i old he
  have hmap : (s.takeWithSpare home i old n).map = (s.setMap i (.moving home old n)).map := by
    simp [State.takeWithSpare]
  have hothers : ∀ j : EntryNumber, j ≠ i → (s.takeWithSpare home i old n).map[j] = s.map[j] := fun j hj => by
    rw [hmap, State.setMap_entry, if_neg (Ne.symm hj)]
  have hself : (s.takeWithSpare home i old n).map[i] = .moving home old n := by
    rw [hmap, State.setMap_entry, if_pos rfl]
  have hhomes : HomesLaw (s.setMap i (.moving home old n)) := by
    rcases hentry with ⟨a, ha, rfl⟩ | ⟨-, habsent, -⟩
    · exact h.homes.setMap_same i _ (.inr (by rw [ha]; rfl))
    · exact h.homes.setMap i _ fun x hx j _ => by
        obtain rfl : home = x := Option.some.inj hx
        exact habsent j
  have hpool : PoolLaw ((s.setMap i (.moving home old n)).setSpare n .allocated) := by
    refine h.pool.allocate i _ n hn ?_ fun x => ?_
    all_goals rcases hentry with ⟨a, ha, rfl⟩ | ⟨hfree, -, rfl⟩
    · rw [ha]
      simpa [MapEntry.names] using Ne.symm
    · simp [MapEntry.names]
    · simp [ha, MapEntry.names, or_comm]
    · simp [hfree, MapEntry.names]
  refine ⟨?_, ?_, ?_, ?_⟩
  · unfold HomesLaw
    rw [hmap]
    exact hhomes
  · have hspares : (s.takeWithSpare home i old n).spares = s.spares.set n .allocated := by simp [State.takeWithSpare]
    unfold PoolLaw State.namedSpares
    rw [hmap, hspares, State.takeWithSpare_frame _ _ _ _ _ |>.1]
    exact hpool
  · have hengine : (s.takeWithSpare home i old n).engine.migration? = some ⟨home, i, old, n⟩ := by
      unfold State.takeWithSpare
      rw [State.relook_engine, quiesceEnd_migration?]
      rfl
    rw [hengine]
    refine ⟨hself, fun j hj => ?_⟩
    rw [hothers j hj]
    exact h.not_moving hidle j
  · have hsame : (s.takeWithSpare home i old n).sparing = s.sparing := by simp
    unfold SparingLaw
    rw [hsame]
    refine ⟨h.sparing.1, fun r hr => Bool.eq_false_iff.2 fun hmoving => ?_⟩
    obtain ⟨j, hj, hjhome⟩ := State.exists_moving_of_isMoving _ _ hmoving
    by_cases hji : j = i
    · subst hji
      rw [hself] at hjhome
      exact hsparing r hr (Option.some.inj hjhome).symm
    · rw [hothers j hji, h.not_moving hidle j] at hj
      cases hj

theorem MapAgreement.takeHead {s : State} (h : MapAgreement s) (hdue : s.takeDue = true) : MapAgreement s.takeHead := by
  have hidle : s.engine.migration? = none := by
    simp only [State.takeDue, Bool.and_eq_true, beq_iff_eq] at hdue
    rw [hdue.1.1]
    rfl
  unfold State.takeHead
  cases hsparing : s.sparing with
  | nil => exact h
  | cons r rest =>
    have hrest : MapAgreement { s with sparing := rest } :=
      h.update (sparing := by simp only [hsparing]; exact List.sublist_cons_self _ _)
    have hpairs := h.sparing.1
    rw [hsparing, List.pairwise_cons] at hpairs
    simp only []
    split
    · exact hrest.update
    · rename_i n hn
      split
      · exact hrest
      · rename_i i old he
        exact hrest.takeWithSpare _ n i old hidle ((State.lowestAvailable_eq_some_iff _ n).1 hn).1 he
          fun q hq => (hpairs.1 q hq).symm

/-- With the engine IDLE no request waits for a MOVING line. -/
theorem sparingLaw_of_not_moving (s : State) (hpairs : s.sparing.Pairwise fun a b => a.home ≠ b.home)
    (hmap : ∀ i : EntryNumber, s.map[i].isMoving = false) : SparingLaw s :=
  ⟨hpairs, fun r _ => s.isMoving_eq_false r.home hmap⟩

/-- A settled migration: its entry no longer moves, its new or its old spare is released, and the engine is IDLE. -/
theorem MapAgreement.settled {s t : State} (h : MapAgreement s) (m : Migration) (hm : s.engine.migration? = some m)
    (e : MapEntry) (he : e.isMoving = false) (hhome : e.home? = none ∨ e.home? = some m.home)
    (hmap : t.map = (s.setMap m.entry e).map) (hpool : PoolLaw t) (hidle : t.engine = .idle)
    (hsparing : t.sparing = s.sparing) : MapAgreement t := by
  obtain ⟨hentry, hothers⟩ := h.entry_of_migration m hm
  have hquiet : ∀ i : EntryNumber, t.map[i].isMoving = false := fun i => by
    rw [hmap, State.setMap_entry]
    split_ifs with hi
    · exact he
    · exact hothers i (Ne.symm hi)
  refine ⟨?_, hpool, ?_, sparingLaw_of_not_moving t (hsparing ▸ h.sparing.1) hquiet⟩
  · have hset : HomesLaw (s.setMap m.entry e) :=
      h.homes.setMap_same m.entry e (hhome.imp_right fun heq => by rw [heq, hentry]; rfl)
    unfold HomesLaw
    rw [hmap]
    exact hset
  · rw [hidle]
    exact hquiet

theorem MapAgreement.names_of_migration {s : State} (h : MapAgreement s) (m : Migration)
    (hm : s.engine.migration? = some m) : s.map[m.entry].names = (MapEntry.moving m.home m.old m.new).names := by
  rw [(h.entry_of_migration m hm).1]

theorem Migration.new_mem_names (m : Migration) : m.new ∈ (MapEntry.moving m.home m.old m.new).names := by
  cases m.old <;> simp [MapEntry.names]

theorem Migration.reverted_names_nodup (m : Migration) : m.reverted.names.Nodup := by
  unfold Migration.reverted
  cases m.old <;> simp [MapEntry.names]

/-- R94: a revert gives up the new spare and keeps the old one. -/
theorem Migration.mem_reverted_names (m : Migration) (h : (MapEntry.moving m.home m.old m.new).names.Nodup) (x : Nat) :
    x ∈ m.reverted.names ↔ x ≠ m.new ∧ x ∈ (MapEntry.moving m.home m.old m.new).names := by
  unfold Migration.reverted
  cases hold : m.old with
  | home => simp [MapEntry.names]
  | spare a =>
    have hne : a ≠ m.new := by simpa [hold, MapEntry.names] using h
    simp only [MapEntry.names, List.mem_cons, List.not_mem_nil, or_false]
    exact ⟨fun hx => ⟨fun hxn => hne (hx.symm.trans hxn), .inl hx⟩, fun ⟨hxn, hx⟩ => hx.resolve_right hxn⟩

/-- R94: the reverted entry names what the MOVING one named but for the new spare. -/
theorem MapAgreement.revert {s : State} (h : MapAgreement s) (m : Migration) (hm : s.engine.migration? = some m)
    (v : SpareState) (hv : v ≠ .allocated) : MapAgreement (s.revert m v) := by
  have hnames := h.names_of_migration m hm
  have hnodup := ((poolLaw_iff s).1 h.pool).2.1 m.entry
  rw [hnames] at hnodup
  have hmap : (s.revert m v).map = (s.setMap m.entry m.reverted).map := by simp [State.revert]
  have hspares : (s.revert m v).spares = s.spares.set m.new v := by simp [State.revert]
  refine h.settled m hm m.reverted ?_ ?_ hmap ?_ rfl (by simp)
  · unfold Migration.reverted
    split <;> rfl
  · unfold Migration.reverted
    split
    · exact .inl rfl
    · exact .inr rfl
  · unfold PoolLaw State.namedSpares
    rw [hmap, hspares, (s.revert_frame m v).1]
    refine h.pool.release m.entry m.reverted m.new v hv ?_ (m.reverted_names_nodup) fun x => ?_
    · rw [hnames]
      exact m.new_mem_names
    · rw [hnames]
      exact m.mem_reverted_names hnodup x

theorem MapAgreement.relook {s : State} (h : MapAgreement s) : MapAgreement s.relook := h.update

theorem MapAgreement.offer {s : State} (h : MapAgreement s) (e : Event) : MapAgreement (s.offer e) := h.update

theorem MapAgreement.bump {s : State} (h : MapAgreement s) (n : CounterName) : MapAgreement (s.bump n) := h.update

theorem MapAgreement.failMigration {s : State} (h : MapAgreement s) (m : Migration) (hm : s.engine.migration? = some m)
    (stage : Stage) (v : SpareState) (hv : v ≠ .allocated) : MapAgreement (s.failMigration m stage v) :=
  ((h.revert m hm v hv).offer _).bump _

/-- R93: the committed entry names the new spare alone; an old spare is RETIRED. -/
theorem MapAgreement.commit {s : State} (h : MapAgreement s) (m : Migration) (hm : s.engine.migration? = some m) :
    MapAgreement (s.commit m) := by
  have hnames := h.names_of_migration m hm
  have hnodup := ((poolLaw_iff s).1 h.pool).2.1 m.entry
  rw [hnames] at hnodup
  have hmap : (s.commit m).map = (s.setMap m.entry (.active m.home m.new)).map := by simp [State.commit]
  refine h.settled m hm (.active m.home m.new) rfl (.inr rfl) hmap ?_ rfl (by simp)
  unfold PoolLaw State.namedSpares
  rw [hmap, (s.commit_frame m).1]
  cases hold : m.old with
  | home =>
    have hspares : (s.commit m).spares = s.spares := by simp [State.commit, hold, State.retireOld]
    rw [hspares]
    exact h.pool.setMap_same m.entry _ (by rw [hnames, hold]; rfl)
  | spare a =>
    have hspares : (s.commit m).spares = s.spares.set a .retired := by simp [State.commit, hold, State.retireOld]
    rw [hspares]
    rw [hold] at hnodup hnames
    refine h.pool.release m.entry _ a .retired (by decide) ?_ ?_ fun x => ?_
    · rw [hnames]
      simp [MapEntry.names]
    · simp [MapEntry.names]
    · rw [hnames]
      have hne : a ≠ m.new := by simpa [MapEntry.names] using hnodup
      simp only [MapEntry.names, List.mem_cons, List.not_mem_nil, or_false]
      exact ⟨fun hx => ⟨fun hxa => hne (hxa.symm.trans hx), .inr hx⟩, fun ⟨hxa, hx⟩ => hx.resolve_left hxa⟩

/-! ## The other actions -/

theorem MapAgreement.offerSparing {s : State} (h : MapAgreement s) (r : SparingRequest) (tag : Option Tag) :
    MapAgreement (s.offerSparing r tag) := by
  unfold State.offerSparing
  cases hout : s.sparingOutcome r with
  | already => exact h
  | full => exact h.update
  | queued =>
    unfold State.sparingOutcome at hout
    split_ifs at hout with hmoving hqueued hfull
    refine ⟨h.homes, h.pool, h.migration, List.pairwise_append.2 ⟨h.sparing.1, by simp, ?_⟩, fun q hq => ?_⟩
    · simpa using hqueued
    · rcases List.mem_append.1 hq with hq | hq
      · exact h.sparing.2 q hq
      · obtain rfl := List.mem_singleton.1 hq
        exact Bool.eq_false_iff.2 hmoving

theorem MapAgreement.raiseThreshold {s : State} (h : MapAgreement s) (l : Location) (o : Origin) (tag : Option Tag) :
    MapAgreement (s.raiseThreshold l o tag) := by
  unfold State.raiseThreshold
  split
  · exact h.offerSparing _ _
  · exact h

theorem MapAgreement.suspectUpdate {s : State} (h : MapAgreement s) (l : Location) (o : Origin) (tag : Option Tag) :
    MapAgreement (s.suspectUpdate l o tag) := by
  have hsuspects (x : List SuspectRecord) : MapAgreement { s with suspects := x } := h.update
  unfold State.suspectUpdate
  simp only []
  split
  · exact iteInduction (fun _ => hsuspects _) fun _ => (hsuspects _).raiseThreshold _ _ _
  · exact iteInduction (fun _ => h.raiseThreshold _ _ _) fun _ => hsuspects _

theorem MapAgreement.handOn {s : State} (h : MapAgreement s) (src : ReadSource) (r : LineResult) (repair : Bool) :
    MapAgreement (s.handOn src r repair) := by
  have hoffered : MapAgreement (if repair then s.offerRepair src r else s) :=
    iteInduction (fun _ => h.update) fun _ => h
  unfold State.handOn
  refine iteInduction (fun _ => ?_) fun _ => MapAgreement.offerSparing ?_ _ _
  all_goals exact iteInduction (fun _ => hoffered) fun _ => hoffered.suspectUpdate _ _ _

theorem MapAgreement.reportRead {s : State} (h : MapAgreement s) (src : ReadSource) (r : LineResult)
    (l : List ChunkNumber) : MapAgreement (s.reportRead src r l) := h.update

theorem MapAgreement.answer {s : State} (h : MapAgreement s) (e : Entry) (status : ResponseStatus) (data : List Byte) :
    MapAgreement (s.answer e status data) := h.update

theorem MapAgreement.endReadPhase {s : State} (h : MapAgreement s) (e : Entry) (bytes : List (Nat × Byte))
    (r : LineResult) : MapAgreement (s.endReadPhase e bytes r) := by
  have hupdated (f : Entry → Entry) : MapAgreement (s.updateEntry e.port e.tag f) := h.update
  unfold State.endReadPhase
  simp only []
  split
  · exact ((hupdated _).reportRead _ _ _).handOn _ _ _
  · exact ((h.answer _ _ _).reportRead _ _ _).handOn _ _ _

theorem MapAgreement.endEntry {s : State} (h : MapAgreement s) (e : Entry) (x : Ending) :
    MapAgreement (s.endEntry e x) := by
  unfold State.endEntry
  refine iteInduction (fun _ => h.answer _ _ _) fun _ => ?_
  cases x with
  | failure => exact h.answer _ _ _
  | done r =>
    refine iteInduction (fun _ => ?_) fun _ => h.answer _ _ _
    cases e.op with
    | read => exact ((h.answer _ _ _).reportRead _ _ _).handOn _ _ _
    | write cls bytes => exact h.endReadPhase _ _ _

theorem MapAgreement.endScrubRead {s : State} (h : MapAgreement s) (r : Option LineResult) :
    MapAgreement (s.endScrubRead r) := by
  have hceased {t : State} (ht : MapAgreement t) : MapAgreement t.advanceCursor.ceaseScrubRead := ht.update
  unfold State.endScrubRead
  split
  · refine iteInduction (fun _ => h.update) fun _ => hceased ?_
    cases r with
    | some r => exact (h.reportRead _ _ _).handOn _ _ _
    | none => exact h
  · exact h
  · exact h

theorem MapAgreement.endCopyRead {s : State} (h : MapAgreement s) (r : Option LineResult) :
    MapAgreement (s.endCopyRead r) := by
  unfold State.endCopyRead
  split
  · rename_i m slot hengine
    have hm : s.engine.migration? = some m := by rw [hengine]; rfl
    have hreverted : MapAgreement (s.revert m .available) := h.revert m hm .available (by decide)
    refine iteInduction (fun _ => hreverted) fun _ => ?_
    cases r with
    | some r => exact h.update (migration := hm.symm)
    | none => exact h.failMigration m hm .read .available (by decide)
  · exact h
  · exact h
  · exact h

theorem MapAgreement.endCopyWrite {s : State} (h : MapAgreement s) (done : Bool) : MapAgreement (s.endCopyWrite done) := by
  unfold State.endCopyWrite
  split
  · rename_i m slot content hengine
    have hm : s.engine.migration? = some m := by rw [hengine]; rfl
    exact iteInduction (fun _ => h.commit m hm) fun _ => h.failMigration m hm .write .retired (by decide)
  · exact h
  · exact h
  · exact h

theorem MapAgreement.endOperation {s : State} (h : MapAgreement s) (n : SlotNumber) (q : Requester) (x : Ending) :
    MapAgreement (s.endOperation n q x) := by
  have hlooked {t : State} (ht : MapAgreement t) : MapAgreement t.quiesceEnd.relook :=
    ht.update (migration := by rw [State.relook_engine, quiesceEnd_migration?])
  unfold State.endOperation
  refine hlooked ?_
  cases q with
  | entry p t =>
    simp only []
    split
    · exact h.endEntry _ _
    · exact h
  | repair home => exact h.update
  | scrub => exact h.endScrubRead _
  | copyRead => exact h.endCopyRead _
  | copyWrite => exact h.endCopyWrite _

theorem MapAgreement.complete {s : State} (h : MapAgreement s) (n : SlotNumber) (status : CompletionStatus) :
    MapAgreement (s.complete n status) := by
  have hfreed : MapAgreement (s.setSlot n .free) := h.update
  unfold State.complete
  split
  · exact h.update
  · exact hfreed.update
  · unfold State.completeBusy
    have hdrawn (d : Nat) : MapAgreement { s.setSlot n .free with draws := d } := h.update
    split
    · exact (hdrawn _).endOperation _ _ _
    · refine MapAgreement.endOperation ?_ _ _ _
      exact iteInduction (fun _ => hfreed) fun _ => hfreed.update

theorem MapAgreement.expire {s : State} (h : MapAgreement s) (n : SlotNumber) : MapAgreement (s.expire n) := by
  unfold State.expire
  split
  · refine MapAgreement.endOperation ?_ _ _ _
    exact h.update
  · exact h
  · exact h

theorem Engine.issue_migration? (e : Engine) (n : SlotNumber) : (e.issue n).migration? = e.migration? := by
  cases e <;> rfl

theorem MapAgreement.grantTo {s : State} (h : MapAgreement s) (c : Candidate) (n : SlotNumber) :
    MapAgreement (s.grantTo c n) := by
  refine h.update (migration := ?_)
  simp only [State.grantTo, State.relook_engine, State.recordIssue]
  split <;> simp [Engine.issue_migration?]

theorem MapAgreement.settleMigration {s : State} (h : MapAgreement s) : MapAgreement s.settleMigration := by
  have hreverted (m : Migration) (hm : s.engine.migration? = some m) : MapAgreement (s.revert m .available) :=
    h.revert m hm .available (by decide)
  unfold State.settleMigration
  split
  · exact h
  · exact hreverted _ (by simp [*, Engine.migration?])
  · exact hreverted _ (by simp [*, Engine.migration?])
  · exact h
  · exact hreverted _ (by simp [*, Engine.migration?])
  · exact h

theorem MapAgreement.beginRestart {s : State} (h : MapAgreement s) : MapAgreement s.beginRestart := by
  have habandoned : MapAgreement (State.abandonScrub (State.abandonRepairs (State.abandonEntries
      { s with service := .aborting }))) := h.update
  exact habandoned.settleMigration.relook

theorem State.lineCountsInUse_eq_false (s : State) (h : s.lineCountsInUse = false) :
    (∀ i : EntryNumber, s.map[i] = .free) ∧ ∀ v ∈ s.spares, v = .available := by
  simp only [State.lineCountsInUse, Bool.or_eq_false_iff, Bool.not_eq_false', State.mapAllFree_iff,
    List.any_eq_false, bne_iff_ne, ne_eq, Decidable.not_not] at h
  exact h

/-- R107: an engine that is not IDLE has a MOVING entry, so with every entry FREE it is IDLE. -/
theorem MapAgreement.idle_of_free {s : State} (h : MapAgreement s) (hmap : ∀ i : EntryNumber, s.map[i] = .free) :
    s.engine.migration? = none := by
  cases hm : s.engine.migration? with
  | none => rfl
  | some m =>
    have hentry := (h.entry_of_migration m hm).1
    rw [hmap] at hentry
    cases hentry

/-- R98: a line count is set while the table and the pool are not in use. -/
theorem MapAgreement.lineCountChanged {s : State} (h : MapAgreement s) (huse : s.lineCountsInUse = false)
    (c : Configuration) : MapAgreement (State.lineCountChanged { s with cfg := c }) := by
  obtain ⟨hmap, -⟩ := s.lineCountsInUse_eq_false huse
  exact mapAgreement_of_unused _ hmap (by simp [State.lineCountChanged]) (by simp [State.lineCountChanged])
    (h.idle_of_free hmap) rfl

theorem MapAgreement.configure {s t : State} (ht : ConfigureEffect s t) (h : MapAgreement s) : MapAgreement t := by
  cases ht with
  | unchanged => exact h
  | installedLines _ _ _ _ huse => exact h.lineCountChanged huse _
  | spareLines _ _ _ huse => exact h.lineCountChanged huse _
  | _ => exact h.update

/-- R95: LOAD MAP. -/
theorem MapAgreement.loadMap {s : State} (h : MapAgreement s) (home k : Nat) (i : EntryNumber)
    (hindex : s.mapIndex home = none) (hk : s.spares[k]? = some .available) (hfree : s.map[i] = .free) :
    MapAgreement ((s.setMap i (.active home k)).setSpare k .allocated) := by
  have hmap : ((s.setMap i (.active home k)).setSpare k .allocated).map = (s.setMap i (.active home k)).map := rfl
  have hmoving : ∀ j : EntryNumber, (s.setMap i (.active home k)).map[j].isMoving = s.map[j].isMoving := fun j => by
    rw [State.setMap_entry]
    split_ifs with hij
    · rw [← hij, hfree]
      rfl
    · rfl
  have hquiet : ∀ x, s.isMoving x = false → ((s.setMap i (.active home k)).setSpare k .allocated).isMoving x = false := by
    intro x hx
    rw [Bool.eq_false_iff] at hx ⊢
    intro hnow
    obtain ⟨j, hj, hjhome⟩ := State.exists_moving_of_isMoving _ _ hnow
    rw [hmap] at hj hjhome
    rw [hmoving] at hj
    rw [State.setMap_entry] at hjhome
    split_ifs at hjhome with hij
    · rw [← hij, hfree] at hj
      cases hj
    · refine hx ?_
      rw [State.isMoving, h.homes.lookup j x hjhome]
      cases hentry : s.map[j] <;> simp_all [MapEntry.isMoving]
  refine ⟨?_, ?_, ?_, ?_⟩
  · exact h.homes.setMap i _ fun x hx j _ => by
      obtain rfl : home = x := Option.some.inj hx
      exact (s.mapIndex_eq_none_iff home).1 hindex j
  · exact h.pool.allocate i _ k hk (by simp [MapEntry.names]) (by simp [hfree, MapEntry.names])
  · have hlaw := h.migration
    have hengine : ((s.setMap i (.active home k)).setSpare k .allocated).engine = s.engine := rfl
    rw [hengine, hmap]
    cases hm : s.engine.migration? with
    | none =>
      rw [hm] at hlaw
      exact fun j => by rw [hmoving]; exact hlaw j
    | some m =>
      rw [hm] at hlaw
      refine ⟨?_, fun j hj => by rw [hmoving]; exact hlaw.2 j hj⟩
      rw [State.setMap_entry, if_neg]
      · exact hlaw.1
      · rintro rfl
        exact MapEntry.noConfusion (hfree.symm.trans hlaw.1)
  · exact ⟨h.sparing.1, fun r hr => hquiet r.home (h.sparing.2 r hr)⟩

/-- R96: LOAD RETIRED. -/
theorem MapAgreement.loadRetired {s : State} (h : MapAgreement s) (k : Nat) (hk : s.spares[k]? = some .available) :
    MapAgreement (s.setSpare k .retired) :=
  ⟨h.homes, h.pool.setSpare k .retired (by decide) (by rw [hk]; decide), h.migration, h.sparing⟩

theorem mapAgreement_kept : KeptByActions MapAgreement where
  out _ _ h := h.update
  pending _ _ h := h.update
  draws _ _ h := h.update
  frameClosed _ _ h := h.update
  atDefault s pin _ := mapAgreement_of_unused _ (by simp [State.atDefault, State.reset])
    (by simp [State.atDefault, State.reset]) rfl rfl rfl
  hold _ _ _ _ _ _ h := h.update
  overrun _ h := h.update
  delivered _ _ h := h.update
  setHeld _ _ h := h.update
  present _ _ h := h.update
  grantTo _ c n _ _ h := h.grantTo c n
  complete _ n status h := h.complete n status
  expire _ n h := h.expire n
  countdownExpiry _ _ h := h.update
  takeHead _ hdue h := h.takeHead hdue
  emitTick _ h := h.update
  microseconds _ _ h := h.update
  beginStart _ _ h := h.update
  beginStop _ _ _ h := h.update
  endStop _ _ h := h.update
  beginRestart _ _ h := h.beginRestart.update
  endRestart _ _ h := h.update
  configure _ _ ht h := h.configure ht
  loadMap s home k i _ hindex hk hfree h := h.loadMap home k i hindex hk (s.lowestFree_spec i hfree)
  loadRetired _ k _ hk h := h.loadRetired k hk
  requestSpare _ r _ h := h.offerSparing r none
  takeEvent _ h := h.update
  clearCounters _ h := h.update

end Sys2Proof.Machine

namespace Sys2Proof.Proofs

open Sys2Proof.Machine

/-- Settles O58: every action keeps map, pool, engine and Sparing Queue in agreement. -/
theorem mapPoolAndEngineAgree : Obligations.MapPoolAndEngineAgree := by
  intro s s' hlaws hstep
  rw [← mapAgreement_iff] at hlaws ⊢
  exact mapAgreement_kept.step s s' hstep hlaws

end Sys2Proof.Proofs
end

section
/-! PROOFS. Who asks for the memory port (7.3, R130, R132): what a candidate says of its requester, and whom the arbiter
chooses. -/

-- One declaration after the other: side by side, the threads with their stacks outgrow the memory of the check.
set_option Elab.async false

namespace Sys2Proof.Machine

/-! ## The candidates -/

/-- R113, R116: the engine asks with its operation not issued. -/
theorem engineCandidate_eq_some (s : State) (c : Candidate) (h : s.engineCandidate = some c) :
    (∃ m, s.engine = .copyRead m none ∧ c = ⟨.migration, .copyRead, .lineRead, m.oldLocation, []⟩) ∨
      ∃ m content, s.engine = .copyWrite m none content ∧
        c = ⟨.migration, .copyWrite, .chunkWrite, .spare m.new, chunkNumbers.map fun k => (k, content[k])⟩ := by
  unfold State.engineCandidate at h
  split at h
  · rename_i m hengine
    cases h
    exact .inl ⟨m, hengine, rfl⟩
  · rename_i m content hengine
    cases h
    exact .inr ⟨m, content, hengine, rfl⟩
  all_goals cases h

/-- R44, R58: an entry asks in READY for its own operation, in WRITE_READY for its write phase. -/
theorem entryCandidate_eq_some (s : State) (e : Entry) (c : Candidate) (h : s.entryCandidate e = some c) :
    c.requester = .entry e.port e.tag ∧ s.resolve e.home = some c.location ∧
      (e.phase = .ready ∧ c.cls = .port ∧ c.kind = (readyOperation e).1 ∨
        e.phase = .writeReady ∧ c.cls = .writeBack ∧ c.kind = .chunkWrite) := by
  unfold State.entryCandidate at h
  cases hresolve : s.resolve e.home with
  | none => simp [hresolve] at h
  | some l =>
    simp only [hresolve] at h
    cases hphase : e.phase with
    | ready =>
      simp only [hphase] at h
      cases h
      exact ⟨rfl, rfl, .inl ⟨rfl, rfl, rfl⟩⟩
    | writeReady =>
      simp only [hphase] at h
      cases h
      exact ⟨rfl, rfl, .inr ⟨rfl, rfl, rfl⟩⟩
    | _ => simp [hphase] at h

/-- R70: the head of the Repair Queue asks while no entry or scrub read has an operation of its line. -/
theorem repairCandidate_eq_some (s : State) (c : Candidate) (h : s.repairCandidate = some c) :
    ∃ r rest l, s.repairs.queue = r :: rest ∧ s.repairWaits r.home = false ∧ s.resolve r.home = some l ∧
      c = ⟨.writeBack, .repair r.home, .chunkWrite, l, r.chunks⟩ := by
  unfold State.repairCandidate at h
  cases hqueue : s.repairs.queue with
  | nil => simp [hqueue] at h
  | cons r rest =>
    simp only [hqueue] at h
    split_ifs at h with hwaits
    obtain ⟨l, hl, hc⟩ := Option.map_eq_some_iff.1 h
    exact ⟨r, rest, l, rfl, Bool.eq_false_iff.2 hwaits, hl, hc.symm⟩

/-- R150: the scrub read asks before its grant, while no hazard holds it. -/
theorem scrubCandidate_eq_some (s : State) (c : Candidate) (h : s.scrubCandidate = some c) :
    ∃ r l, s.scrub.read = some r ∧ r.granted = none ∧ s.scrubHeld r = false ∧ s.resolve r.home = some l ∧
      c = ⟨.scrub, .scrub, .lineRead, l, []⟩ := by
  unfold State.scrubCandidate at h
  cases hread : s.scrub.read with
  | none => simp [hread] at h
  | some r =>
    simp only [hread] at h
    split_ifs at h with hasks
    obtain ⟨l, hl, hc⟩ := Option.map_eq_some_iff.1 h
    rw [not_or] at hasks
    exact ⟨r, l, rfl, by simpa using hasks.1, Bool.eq_false_iff.2 hasks.2, hl, hc.symm⟩

theorem eligibleEntry_eq_some_iff (s : State) (e : Entry) (c : Candidate) :
    s.eligibleEntry e = some c ↔ s.entryCandidate e = some c ∧ s.eligible c = true := Option.filter_eq_some_iff

theorem scrubChoice_eq_some_iff (s : State) (c : Candidate) :
    s.scrubChoice = some c ↔ s.scrubCandidate = some c ∧ s.eligible c = true := Option.filter_eq_some_iff

/-- R133: the oldest eligible PARTIAL write phase. -/
theorem writePhaseChoice_eq_some (s : State) (c : Candidate) (h : s.writePhaseChoice = some c) :
    ∃ e ∈ s.tt, e.phase = .writeReady ∧ s.eligibleEntry e = some c ∧
      ∀ x ∈ s.tt, x.phase = .writeReady → s.eligibleEntry x ≠ none → e.position ≤ x.position := by
  obtain ⟨e, holdest, he⟩ := Option.bind_eq_some_iff.1 h
  obtain ⟨hmem, hle⟩ := oldest_spec _ e holdest
  obtain ⟨hmem, hphase⟩ := List.mem_filter.1 hmem
  simp only [Bool.and_eq_true, beq_iff_eq] at hphase
  refine ⟨e, hmem, hphase.1, he, fun x hx hxphase hxeligible => hle x (List.mem_filter.2 ⟨hx, ?_⟩)⟩
  simpa [hxphase, Option.isSome_iff_ne_none] using hxeligible

/-- R134: a port's candidate is its oldest eligible READY entry. -/
theorem portCandidate_eq_some (s : State) (p : Port) (c : Candidate) (h : s.portCandidate p = some c) :
    ∃ e ∈ s.tt, e.port = p ∧ e.phase = .ready ∧ s.eligibleEntry e = some c ∧
      ∀ x ∈ s.tt, x.port = p → x.phase = .ready → s.eligibleEntry x ≠ none → e.position ≤ x.position := by
  obtain ⟨e, holdest, he⟩ := Option.bind_eq_some_iff.1 h
  obtain ⟨hmem, hle⟩ := oldest_spec _ e holdest
  obtain ⟨hmem, hphase⟩ := List.mem_filter.1 hmem
  simp only [Bool.and_eq_true, beq_iff_eq] at hphase
  obtain ⟨⟨hport, hready⟩, -⟩ := hphase
  refine ⟨e, hmem, hport, hready, he, fun x hx hxport hxphase hxeligible => hle x (List.mem_filter.2 ⟨hx, ?_⟩)⟩
  simpa [hxport, hxphase, Option.isSome_iff_ne_none] using hxeligible

theorem oldest_eq_none_iff (l : List Entry) : oldest l = none ↔ l = [] := by
  cases l with
  | nil => simp [oldest]
  | cons e l =>
    simp only [oldest, reduceCtorEq, iff_false]
    split
    · simp
    · split <;> simp

theorem oldest_bind_eq_none_iff (l : List Entry) (f : Entry → Option Candidate) (hf : ∀ e ∈ l, (f e).isSome = true) :
    (oldest l).bind f = none ↔ l = [] := by
  cases hoest : oldest l with
  | none => simpa using (oldest_eq_none_iff l).1 hoest
  | some e =>
    have hmem := (oldest_spec l e hoest).1
    constructor
    · intro h
      have hsome := hf e hmem
      rw [show f e = none from h] at hsome
      cases hsome
    · rintro rfl
      cases hmem

theorem writePhaseChoice_eq_none_iff (s : State) :
    s.writePhaseChoice = none ↔ ∀ e ∈ s.tt, e.phase = .writeReady → s.eligibleEntry e = none := by
  unfold State.writePhaseChoice
  rw [oldest_bind_eq_none_iff _ _ fun e he => (Bool.and_eq_true_iff.1 (List.mem_filter.1 he).2).2]
  simp [List.filter_eq_nil_iff]

theorem portCandidate_eq_none_iff (s : State) (p : Port) :
    s.portCandidate p = none ↔ ∀ e ∈ s.tt, e.port = p → e.phase = .ready → s.eligibleEntry e = none := by
  unfold State.portCandidate
  rw [oldest_bind_eq_none_iff _ _ fun e he => (Bool.and_eq_true_iff.1 (List.mem_filter.1 he).2).2]
  simp [List.filter_eq_nil_iff]

/-- R134: of two ports that offer a candidate the one not granted last is taken. -/
theorem portChoice_eq_some (s : State) (c : Candidate) (h : s.portChoice = some c) :
    ∃ p, s.portCandidate p = some c ∧ ∀ q, q ≠ p → s.portCandidate q ≠ none → s.memory.mark ≠ p := by
  unfold State.portChoice at h
  split at h
  · rename_i a b ha hb
    split_ifs at h with hmark
    · cases h
      exact ⟨.u1, hb, fun _ _ _ => by rw [hmark]; decide⟩
    · cases h
      exact ⟨.u0, ha, fun _ _ _ => hmark⟩
  · rename_i a ha hb
    cases h
    refine ⟨.u0, ha, fun q hq hsome => ?_⟩
    cases q with
    | u0 => exact absurd rfl hq
    | u1 => exact absurd hb hsome
  · rename_i b ha hb
    cases h
    refine ⟨.u1, hb, fun q hq hsome => ?_⟩
    cases q with
    | u0 => exact absurd ha hsome
    | u1 => exact absurd rfl hq
  · cases h

theorem portChoice_eq_none_iff (s : State) :
    s.portChoice = none ↔ s.portCandidate .u0 = none ∧ s.portCandidate .u1 = none := by
  unfold State.portChoice
  split <;> simp_all
  split <;> simp

/-! ## The choice (R132) -/

/-- R132, R135: the chosen candidate by its class, with what the classes before it did not offer. -/
inductive Chosen (s : State) (c : Candidate) : Prop
  | engine : s.engineCandidate = some c → s.eligible c = true → Chosen s c
  | writePhase : s.engineCandidate.filter s.eligible = none → s.writePhaseChoice = some c → Chosen s c
  | repair : s.engineCandidate.filter s.eligible = none → s.writePhaseChoice = none →
      s.repairCandidate = some c → s.eligible c = true → Chosen s c
  | promoted : s.engineCandidate.filter s.eligible = none → s.writePhaseChoice = none →
      s.repairCandidate.filter s.eligible = none → s.memory.passOver = 32 → s.scrubChoice = some c → Chosen s c
  | port : s.engineCandidate.filter s.eligible = none → s.writePhaseChoice = none →
      s.repairCandidate.filter s.eligible = none → (s.memory.passOver = 32 → s.scrubChoice = none) →
      s.portChoice = some c → Chosen s c
  | scrub : s.engineCandidate.filter s.eligible = none → s.writePhaseChoice = none →
      s.repairCandidate.filter s.eligible = none → s.portChoice = none → s.scrubChoice = some c → Chosen s c

theorem promotedScrub_eq_some_iff (s : State) (c : Candidate) :
    s.promotedScrub = some c ↔ s.memory.passOver = 32 ∧ s.scrubChoice = some c := by
  have hlimit : Config.passOverLimit = 32 := rfl
  unfold State.promotedScrub
  rw [hlimit]
  split_ifs with h <;> simp [h]

theorem promotedScrub_eq_none_iff (s : State) :
    s.promotedScrub = none ↔ (s.memory.passOver = 32 → s.scrubChoice = none) := by
  have hlimit : Config.passOverLimit = 32 := rfl
  unfold State.promotedScrub
  rw [hlimit]
  split_ifs with h <;> simp [h]

/-- R159, R164: no grant is made in HALTED and ABORTING. -/
theorem service_of_chooseGrant (s : State) (c : Candidate) (h : s.chooseGrant = some c) :
    s.service = .running ∨ s.service = .stopping := by
  unfold State.chooseGrant at h
  split_ifs at h with hservice
  exact hservice

theorem chosen_of_chooseGrant (s : State) (c : Candidate) (h : s.chooseGrant = some c) : Chosen s c := by
  have hservice := service_of_chooseGrant s c h
  simp only [State.chooseGrant, hservice, if_true, Option.or_eq_some_iff] at h
  rcases h with h | ⟨h₁, h | ⟨h₂, h | ⟨h₃, h | ⟨h₄, h | ⟨h₅, h⟩⟩⟩⟩⟩
  · obtain ⟨hc, heligible⟩ := Option.filter_eq_some_iff.1 h
    exact .engine hc heligible
  · exact .writePhase h₁ h
  · obtain ⟨hc, heligible⟩ := Option.filter_eq_some_iff.1 h
    exact .repair h₁ h₂ hc heligible
  · obtain ⟨hcount, hc⟩ := (promotedScrub_eq_some_iff s c).1 h
    exact .promoted h₁ h₂ h₃ hcount hc
  · exact .port h₁ h₂ h₃ ((promotedScrub_eq_none_iff s).1 h₄) h
  · exact .scrub h₁ h₂ h₃ h₅ h

/-- Whom a grant is made to, and what it was before. -/
inductive Asker (s : State) (c : Candidate) : Prop
  | entry (e : Entry) : e ∈ s.tt → c.requester = .entry e.port e.tag → e.phase = .ready ∨ e.phase = .writeReady →
      s.eligibleEntry e = some c → Asker s c
  | repair (r : RepairRecord) (rest : List RepairRecord) : s.repairs.queue = r :: rest →
      c.requester = .repair r.home → s.repairCandidate = some c → Asker s c
  | scrub (r : ScrubRead) : s.scrub.read = some r → r.granted = none → c.requester = .scrub →
      s.scrubCandidate = some c → Asker s c
  | copyRead (m : Migration) : s.engine = .copyRead m none → c.requester = .copyRead →
      s.engineCandidate = some c → Asker s c
  | copyWrite (m : Migration) (content : Vector ChunkContent 8) : s.engine = .copyWrite m none content →
      c.requester = .copyWrite → s.engineCandidate = some c → Asker s c

theorem asker_of_eligibleEntry (s : State) (e : Entry) (c : Candidate) (he : e ∈ s.tt)
    (h : s.eligibleEntry e = some c) : Asker s c := by
  obtain ⟨hrequester, -, hphase⟩ := entryCandidate_eq_some s e c ((eligibleEntry_eq_some_iff s e c).1 h).1
  exact .entry e he hrequester (hphase.imp (·.1) (·.1)) h

theorem asker_of_scrubChoice (s : State) (c : Candidate) (h : s.scrubChoice = some c) : Asker s c := by
  have hc := ((scrubChoice_eq_some_iff s c).1 h).1
  obtain ⟨r, l, hread, hgranted, -, -, rfl⟩ := scrubCandidate_eq_some s c hc
  exact .scrub r hread hgranted rfl hc

theorem asker_of_chooseGrant (s : State) (c : Candidate) (h : s.chooseGrant = some c) : Asker s c := by
  cases chosen_of_chooseGrant s c h with
  | engine hc _ =>
    rcases engineCandidate_eq_some s c hc with ⟨m, hengine, rfl⟩ | ⟨m, content, hengine, rfl⟩
    · exact .copyRead m hengine rfl hc
    · exact .copyWrite m content hengine rfl hc
  | writePhase _ hc =>
    obtain ⟨e, he, -, heligible, -⟩ := writePhaseChoice_eq_some s c hc
    exact asker_of_eligibleEntry s e c he heligible
  | repair _ _ hc _ =>
    obtain ⟨r, rest, l, hqueue, -, -, rfl⟩ := repairCandidate_eq_some s c hc
    exact .repair r rest hqueue rfl hc
  | promoted _ _ _ _ hc => exact asker_of_scrubChoice s c hc
  | port _ _ _ _ hc =>
    obtain ⟨p, hp, -⟩ := portChoice_eq_some s c hc
    obtain ⟨e, he, -, -, heligible, -⟩ := portCandidate_eq_some s p c hp
    exact asker_of_eligibleEntry s e c he heligible
  | scrub _ _ _ _ hc => exact asker_of_scrubChoice s c hc

end Sys2Proof.Machine
end

section
/-! PROOFS. The end of an entry's operation (ch. 3): one equation for each way it ends, and what all of them come to. -/

-- One declaration after the other: side by side, the threads with their stacks outgrow the memory of the check.
set_option Elab.async false

namespace Sys2Proof.Machine

/-- R54, R58: an entry between its phases keeps its read result, has left its slot, and is no longer issued. -/
def Entry.merge (r : LineResult) (e : Entry) : Entry := { e with phase := .merging, slot := none, readResult := some r }

section
variable (s : State) (e : Entry)

/-- R62, R165. -/
theorem endEntry_aborting (x : Ending) (h : s.service = .aborting) : s.endEntry e x = s.answer e .aborted [] :=
  if_pos h

/-- R52, R60. -/
theorem endEntry_failure (h : s.service ≠ .aborting) : s.endEntry e .failure = s.answer e .errMemory [] :=
  if_neg h

/-- R50. -/
theorem endEntry_written (r : LineResult) (h : s.service ≠ .aborting) (hphase : e.phase ≠ .issued) :
    s.endEntry e (.done r) = s.answer e .ok [] :=
  (if_neg h).trans (if_neg hphase)

/-- R45. -/
theorem endEntry_read (r : LineResult) (h : s.service ≠ .aborting) (hphase : e.phase = .issued) (hop : e.op = .read) :
    s.endEntry e (.done r) = s.endRead e r := by
  refine (if_neg h).trans ((if_pos hphase).trans ?_)
  rw [hop]

/-- R53. -/
theorem endEntry_readPhase (r : LineResult) (cls : WriteClass) (bytes : List (Nat × Byte)) (h : s.service ≠ .aborting)
    (hphase : e.phase = .issued) (hop : e.op = .write cls bytes) :
    s.endEntry e (.done r) = s.endReadPhase e bytes r := by
  refine (if_neg h).trans ((if_pos hphase).trans ?_)
  rw [hop]

/-- R58, R59. -/
theorem endReadPhase_proceeding (bytes : List (Nat × Byte)) (r : LineResult)
    (h : judgeChunks r (partlyCoveredChunks e.offset bytes) = .ok) :
    s.endReadPhase e bytes r =
      ((s.updateEntry e.port e.tag (Entry.merge r)).reportRead e.source r []).handOn e.source r false := by
  simp only [State.endReadPhase, h]
  rfl

/-- R54, R55. -/
theorem endReadPhase_refused (bytes : List (Nat × Byte)) (r : LineResult)
    (h : judgeChunks r (partlyCoveredChunks e.offset bytes) ≠ .ok) :
    s.endReadPhase e bytes r =
      ((s.answer e (judgeChunks r (partlyCoveredChunks e.offset bytes)) []).reportRead e.source r
        (poisonedAmong r (partlyCoveredChunks e.offset bytes))).handOn e.source r true := by
  simp only [State.endReadPhase]

/-- R32: an entry is answered, answered with its line result handed on, or kept for its write phase; in ABORTING it is
answered alone. -/
inductive EntryEnded : State → Prop
  | answered (status : ResponseStatus) (data : List Byte) : EntryEnded (s.answer e status data)
  | handedOn (status : ResponseStatus) (data : List Byte) (r : LineResult) (poisoned : List ChunkNumber) :
      s.service ≠ .aborting →
      EntryEnded (((s.answer e status data).reportRead e.source r poisoned).handOn e.source r true)
  | kept (r : LineResult) : s.service ≠ .aborting →
      EntryEnded (((s.updateEntry e.port e.tag (Entry.merge r)).reportRead e.source r []).handOn e.source r false)

theorem endEntry_ended (x : Ending) : EntryEnded s e (s.endEntry e x) := by
  by_cases h : s.service = .aborting
  · rw [endEntry_aborting s e x h]
    exact .answered _ _
  · cases x with
    | failure =>
      rw [endEntry_failure s e h]
      exact .answered _ _
    | done r =>
      by_cases hphase : e.phase = .issued
      · cases hop : e.op with
        | read =>
          rw [endEntry_read s e r h hphase hop]
          exact .handedOn _ _ _ _ h
        | write cls bytes =>
          rw [endEntry_readPhase s e r cls bytes h hphase hop]
          by_cases hjudge : judgeChunks r (partlyCoveredChunks e.offset bytes) = .ok
          · rw [endReadPhase_proceeding s e bytes r hjudge]
            exact .kept r h
          · rw [endReadPhase_refused s e bytes r hjudge]
            exact .handedOn _ _ _ _ h
      · rw [endEntry_written s e r h hphase]
        exact .answered _ _

end

end Sys2Proof.Machine
end

section
/-! PROOFS. Tags, slots, the scrub and the service state (2.2, 7.2, 8.6, 9.1, 11.2): who waits for which slot under each
action, and the laws of HALTED and ABORTING. -/

-- One declaration after the other: side by side, the threads with their stacks outgrow the memory of the check.
set_option Elab.async false

namespace Sys2Proof.Machine

/-! ## Who waits for a slot (R129) -/

theorem Slot.isBusy_eq (v : Slot) : v.isBusy = v.requester?.isSome := by cases v <;> rfl

theorem waitsFor_entry_iff (s : State) (n : SlotNumber) (p : Port) (t : Tag) :
    s.waitsFor n (.entry p t) = true ↔
      ∃ e ∈ s.tt, e.port = p ∧ e.tag = t ∧ e.isIssued = true ∧ e.slot = some n := by
  simp [State.waitsFor, and_assoc]

theorem waitsFor_repair_iff (s : State) (n : SlotNumber) (h : Nat) :
    s.waitsFor n (.repair h) = true ↔ ∃ r ∈ s.repairs.issued, r.record.home = h ∧ r.slot = n := by
  simp [State.waitsFor]

theorem waitsFor_scrub_iff (s : State) (n : SlotNumber) :
    s.waitsFor n .scrub = true ↔ ∃ r, s.scrub.read = some r ∧ ∃ l, r.granted = some (l, n) := by
  cases hread : s.scrub.read <;> simp [State.waitsFor, hread]

theorem waitsFor_copyRead_iff (s : State) (n : SlotNumber) :
    s.waitsFor n .copyRead = true ↔ s.engine.issued? = some (.copyRead, n) := by
  simp [State.waitsFor]

theorem waitsFor_copyWrite_iff (s : State) (n : SlotNumber) :
    s.waitsFor n .copyWrite = true ↔ s.engine.issued? = some (.copyWrite, n) := by
  simp [State.waitsFor]

theorem Engine.issued?_requester (e : Engine) (x : Requester × SlotNumber) (h : e.issued? = some x) :
    x.1 = .copyRead ∨ x.1 = .copyWrite := by
  cases e with
  | copyRead m slot => cases slot <;> cases h; exact .inl rfl
  | copyWrite m slot _ => cases slot <;> cases h; exact .inr rfl
  | _ => cases h

theorem Engine.issued?_copyRead (e : Engine) (n : SlotNumber) (h : e.issued? = some (.copyRead, n)) :
    ∃ m, e = .copyRead m (some n) := by
  cases e with
  | copyRead m slot => cases slot <;> cases h; exact ⟨m, rfl⟩
  | copyWrite m slot _ => cases slot <;> cases h
  | _ => cases h

theorem Engine.issued?_copyWrite (e : Engine) (n : SlotNumber) (h : e.issued? = some (.copyWrite, n)) :
    ∃ m content, e = .copyWrite m (some n) content := by
  cases e with
  | copyRead m slot => cases slot <;> cases h
  | copyWrite m slot content => cases slot <;> cases h; exact ⟨m, content, rfl⟩
  | _ => cases h

/-- R129 said both ways at once: the requester of a slot is exactly the one that waits for it. -/
theorem slotLaw_iff (s : State) :
    SlotLaw s ↔ (∀ (n : SlotNumber) (q : Requester), s.memory.slots[n].requester? = some q ↔ s.waitsFor n q = true) ∧
      ∀ e ∈ s.tt, e.isIssued = true → ∃ n : SlotNumber, e.slot = some n := by
  constructor
  · rintro ⟨hbusy, hentries, hrepairs, hscrub, hengine⟩
    refine ⟨fun n q => ⟨hbusy n q, fun hq => ?_⟩, fun e he hissued => ?_⟩
    · cases q with
      | entry p t =>
        obtain ⟨e, he, rfl, rfl, hissued, hslot⟩ := (waitsFor_entry_iff s n p t).1 hq
        obtain ⟨m, hm, hrequester⟩ := hentries e he hissued
        obtain rfl : m = n := Option.some.inj (hm.symm.trans hslot)
        exact hrequester
      | repair h =>
        obtain ⟨r, hr, rfl, rfl⟩ := (waitsFor_repair_iff s n h).1 hq
        exact hrepairs r hr
      | scrub =>
        obtain ⟨r, hread, l, hgranted⟩ := (waitsFor_scrub_iff s n).1 hq
        exact hscrub r hread (l, n) hgranted
      | copyRead => exact hengine _ ((waitsFor_copyRead_iff s n).1 hq)
      | copyWrite => exact hengine _ ((waitsFor_copyWrite_iff s n).1 hq)
    · obtain ⟨n, hn, -⟩ := hentries e he hissued
      exact ⟨n, hn⟩
  · rintro ⟨hiff, hslots⟩
    refine ⟨fun n q => (hiff n q).1, fun e he hissued => ?_, fun r hr => ?_, fun r hr g hg => ?_, fun x hx => ?_⟩
    · obtain ⟨n, hn⟩ := hslots e he hissued
      exact ⟨n, hn, (hiff n _).2 ((waitsFor_entry_iff s n _ _).2 ⟨e, he, rfl, rfl, hissued, hn⟩)⟩
    · exact (hiff r.slot _).2 ((waitsFor_repair_iff s _ _).2 ⟨r, hr, rfl, rfl⟩)
    · exact (hiff g.2 _).2 ((waitsFor_scrub_iff s _).2 ⟨r, hr, g.1, hg⟩)
    · obtain ⟨q, n⟩ := x
      refine (hiff n q).2 ?_
      rcases Engine.issued?_requester _ _ hx with rfl | rfl
      · exact (waitsFor_copyRead_iff s n).2 hx
      · exact (waitsFor_copyWrite_iff s n).2 hx

/-- R147: what the scrub read waits for is in its grant. -/
theorem waitsFor_scrub_eq (s : State) (n : SlotNumber) :
    s.waitsFor n .scrub = ((s.scrub.read.bind (·.granted)).map (·.2) == some n) := by
  unfold State.waitsFor
  cases s.scrub.read with
  | none => rfl
  | some r => rfl

/-- What waits is read from four fields. -/
theorem waitsFor_congr {s t : State} (tt : t.tt = s.tt) (issued : t.repairs.issued = s.repairs.issued)
    (granted : t.scrub.read.bind (·.granted) = s.scrub.read.bind (·.granted))
    (engine : t.engine.issued? = s.engine.issued?) (n : SlotNumber) (q : Requester) :
    t.waitsFor n q = s.waitsFor n q := by
  cases q with
  | scrub => rw [waitsFor_scrub_eq, waitsFor_scrub_eq, granted]
  | entry p g => simp only [State.waitsFor, tt]
  | repair home => simp only [State.waitsFor, issued]
  | copyRead => simp only [State.waitsFor, engine]
  | copyWrite => simp only [State.waitsFor, engine]

/-! ## The laws together -/

/-- The laws of R158, R159, R164 with those they rest on (`serviceAgreement_iff`). -/
structure ServiceAgreement (s : State) : Prop where
  tags : TagLaw s
  slots : SlotLaw s
  scrub : ScrubLaw s
  halted : HaltedLaw s
  aborting : AbortingLaw s

theorem serviceAgreement_iff (s : State) : ServiceAgreement s ↔ ServiceLaw s :=
  ⟨fun ⟨h₁, h₂, h₃, h₄, h₅⟩ => ⟨h₁, h₂, h₃, h₄, h₅⟩, fun ⟨h₁, h₂, h₃, h₄, h₅⟩ => ⟨h₁, h₂, h₃, h₄, h₅⟩⟩

namespace ServiceAgreement

theorem waits {s : State} (h : ServiceAgreement s) {n : SlotNumber} {q : Requester}
    (hq : s.memory.slots[n].requester? = some q) : s.waitsFor n q = true := h.slots.1 n q hq

theorem requester {s : State} (h : ServiceAgreement s) {n : SlotNumber} {q : Requester} (hq : s.waitsFor n q = true) :
    s.memory.slots[n].requester? = some q := (((slotLaw_iff s).1 h.slots).1 n q).2 hq

/-- R20: an entry is named by its port and tag. -/
theorem entry_eq {s : State} (h : ServiceAgreement s) {a b : Entry} (ha : a ∈ s.tt) (hb : b ∈ s.tt)
    (hport : a.port = b.port) (htag : a.tag = b.tag) : a = b := by
  by_contra hne
  have : Std.Symm fun a b : Entry => a.port ≠ b.port ∨ a.tag ≠ b.tag :=
    ⟨fun _ _ hd => hd.imp Ne.symm Ne.symm⟩
  rcases h.tags.forall ha hb hne with hdiff | hdiff
  · exact hdiff hport
  · exact hdiff htag

/-- R159: in HALTED no slot is BUSY. -/
theorem not_halted {s : State} (h : ServiceAgreement s) {n : SlotNumber} {q : Requester}
    (hq : s.memory.slots[n].requester? = some q) : s.service ≠ .halted := by
  intro hservice
  obtain ⟨-, -, -, -, -, -, hbusy⟩ := h.halted hservice
  have := hbusy n
  rw [Slot.isBusy_eq, hq] at this
  cases this

/-- An action that leaves who waits for which slot, with the laws of the service states that it reaches. -/
theorem of_waits {s t : State} (h : ServiceAgreement s) (tt : t.tt = s.tt)
    (issued : t.repairs.issued = s.repairs.issued)
    (granted : t.scrub.read.bind (·.granted) = s.scrub.read.bind (·.granted))
    (engine : t.engine.issued? = s.engine.issued?)
    (slots : ∀ n : SlotNumber, t.memory.slots[n].requester? = s.memory.slots[n].requester?)
    (scrub : ScrubLaw t) (halted : HaltedLaw t) (aborting : AbortingLaw t) : ServiceAgreement t where
  tags := by
    unfold TagLaw
    rw [tt]
    exact h.tags
  slots := by
    rw [slotLaw_iff]
    simp only [slots, tt, waitsFor_congr tt issued granted engine]
    exact (slotLaw_iff s).1 h.slots
  scrub := scrub
  halted := halted
  aborting := aborting

/-- Actions that leave the fields of the waiting, the requesters of the slots and the service state. -/
theorem update {s t : State} (h : ServiceAgreement s) (tt : t.tt = s.tt := by simp)
    (repairs : t.repairs = s.repairs := by simp) (engine : t.engine = s.engine := by simp)
    (read : t.scrub.read = s.scrub.read := by simp) (state : t.scrub.state = s.scrub.state := by simp)
    (slots : ∀ n : SlotNumber, t.memory.slots[n].requester? = s.memory.slots[n].requester? := by simp)
    (service : t.service = s.service := by simp) : ServiceAgreement t := by
  refine h.of_waits tt (by rw [repairs]) (by rw [read]) (by rw [engine]) slots ?_ ?_ ?_
  · have := h.scrub
    unfold ScrubLaw scrubAgrees at *
    rw [service, state, read]
    exact this
  · have := h.halted
    unfold HaltedLaw at *
    simp only [Slot.isBusy_eq, service, tt, repairs, engine, read, state, slots] at this ⊢
    exact this
  · unfold AbortingLaw
    rw [service, tt, repairs, engine]
    exact h.aborting

/-- An action outside HALTED and ABORTING that leaves the scrub and who waits. -/
theorem update_active {s t : State} (h : ServiceAgreement s) (hhalted : s.service ≠ .halted)
    (haborting : s.service ≠ .aborting) (tt : t.tt = s.tt := by simp)
    (issued : t.repairs.issued = s.repairs.issued := by simp)
    (engine : t.engine.issued? = s.engine.issued? := by simp)
    (read : t.scrub.read = s.scrub.read := by simp) (state : t.scrub.state = s.scrub.state := by simp)
    (slots : ∀ n : SlotNumber, t.memory.slots[n].requester? = s.memory.slots[n].requester? := by simp)
    (service : t.service = s.service := by simp) : ServiceAgreement t := by
  refine h.of_waits tt issued (by rw [read]) engine slots ?_ ?_ ?_
  · have := h.scrub
    unfold ScrubLaw scrubAgrees at *
    rw [service, state, read]
    exact this
  · exact fun hservice => absurd (service ▸ hservice) hhalted
  · exact fun hservice => absurd (service ▸ hservice) haborting

end ServiceAgreement

/-! ## Looking again -/

theorem relook_pairwise (s : State) (R : Entry → Entry → Prop)
    (hR : ∀ (a b : Entry) (x y : Phase), R a b → R { a with phase := x } { b with phase := y })
    (h : s.tt.Pairwise R) : s.relook.tt.Pairwise R := by
  rw [State.relook, List.pairwise_map]
  exact h.imp fun hab => hR _ _ _ _ hab

theorem relook_waitsFor (s : State) (n : SlotNumber) (q : Requester) : s.relook.waitsFor n q = s.waitsFor n q := by
  cases q with
  | entry p t => simp [State.waitsFor, State.relook, List.any_map, Function.comp_def, isIssued_phaseNow]
  | _ => rfl

namespace ServiceAgreement

theorem relook {s : State} (h : ServiceAgreement s) : ServiceAgreement s.relook where
  tags := relook_pairwise s _ (fun _ _ _ _ hab => hab) h.tags
  slots := by
    have hlaw := (slotLaw_iff s).1 h.slots
    rw [slotLaw_iff]
    refine ⟨fun n q => by rw [relook_waitsFor]; exact hlaw.1 n q, fun e he hissued => ?_⟩
    obtain ⟨x, hx, rfl⟩ := (mem_relook s e).1 he
    rw [isIssued_phaseNow] at hissued
    exact hlaw.2 x hx hissued
  scrub := h.scrub
  halted hservice := by
    obtain ⟨htt, hrest⟩ := h.halted hservice
    exact ⟨by simp [State.relook, htt], hrest⟩
  aborting hservice := by
    obtain ⟨hqueue, hentries, hengine⟩ := h.aborting hservice
    refine ⟨hqueue, fun e he => ?_, hengine⟩
    obtain ⟨x, hx, rfl⟩ := (mem_relook s e).1 he
    rw [isIssued_phaseNow]
    exact hentries x hx

theorem quiesceEnd {s : State} (h : ServiceAgreement s) : ServiceAgreement s.quiesceEnd := by
  unfold State.quiesceEnd
  split
  · rename_i m hengine
    refine iteInduction (fun _ => h) fun _ => h.update_active (fun hservice => ?_) (fun hservice => ?_)
      (engine := by rw [hengine]; rfl)
    · obtain ⟨-, -, -, hidle, -⟩ := h.halted hservice
      rw [hengine] at hidle
      cases hidle
    · obtain ⟨-, -, hidle | hissued⟩ := h.aborting hservice
      · rw [hengine] at hidle
        cases hidle
      · rw [hengine] at hissued
        cases hissued
  · exact h
  · exact h
  · exact h

end ServiceAgreement

/-! ## The Repair Queue, which nobody waits in -/

theorem settleRepair_issued (s : State) (src : ReadSource) (l : List (ChunkNumber × ChunkContent)) :
    (s.settleRepair src l).repairs.issued = s.repairs.issued := by
  unfold State.settleRepair
  (repeat' split) <;> simp

theorem offerRepair_issued (s : State) (src : ReadSource) (r : LineResult) :
    (s.offerRepair src r).repairs.issued = s.repairs.issued := by
  unfold State.offerRepair
  split
  · exact settleRepair_issued _ _ _
  · rfl

theorem handOn_repairs (s : State) (src : ReadSource) (r : LineResult) (repair : Bool) :
    (s.handOn src r repair).repairs = (if repair then s.offerRepair src r else s).repairs := by
  unfold State.handOn
  split_ifs <;> simp

theorem handOn_issued (s : State) (src : ReadSource) (r : LineResult) (repair : Bool) :
    (s.handOn src r repair).repairs.issued = s.repairs.issued := by
  rw [handOn_repairs]
  split_ifs
  · exact offerRepair_issued s src r
  · rfl

/-- The scrub read ceases before the entries it held look again (R151). -/
def State.withoutScrubRead (s : State) : State :=
  { s with scrub := { s.scrub with state := if s.service = .running then .waiting else .off, read := none } }

/-! ## The end of an operation -/

/-- The slots and the requesters of `t` are those of `s` but for the operation of slot `n`, which has ended. -/
structure Ended (s : State) (n : SlotNumber) (t : State) : Prop where
  slots (m : SlotNumber) : t.memory.slots[m].requester? = if n = m then none else s.memory.slots[m].requester?
  waits (m : SlotNumber) (q : Requester) : t.waitsFor m q = true ↔ s.waitsFor m q = true ∧ m ≠ n

theorem slotLaw_of_ended {s t : State} {n : SlotNumber} (h : ServiceAgreement s) (ht : Ended s n t)
    (hslots : ∀ e ∈ t.tt, e.isIssued = true → ∃ m : SlotNumber, e.slot = some m) : SlotLaw t := by
  rw [slotLaw_iff]
  refine ⟨fun m q => ?_, hslots⟩
  rw [ht.slots, ht.waits, ← ((slotLaw_iff s).1 h.slots).1 m q]
  split_ifs with hmn
  · exact ⟨fun hnone => (nomatch hnone), fun hq => absurd hmn.symm hq.2⟩
  · exact ⟨fun hq => ⟨hq, Ne.symm hmn⟩, fun hq => hq.1⟩

/-- Who else waits does not wait for the slot of the ended operation. -/
theorem ServiceAgreement.slot_ne {s : State} (h : ServiceAgreement s) {n m : SlotNumber} {q q' : Requester}
    (hq : s.memory.slots[n].requester? = some q) (hq' : s.waitsFor m q' = true) (hne : q' ≠ q) : m ≠ n := by
  rintro rfl
  exact hne (Option.some.inj ((h.requester hq').symm.trans hq))

theorem ServiceAgreement.entryOf_waiting {s : State} (h : ServiceAgreement s) {n : SlotNumber} {p : Port} {t : Tag}
    (hq : s.memory.slots[n].requester? = some (.entry p t)) :
    ∃ e ∈ s.tt, e.port = p ∧ e.tag = t ∧ e.isIssued = true ∧ e.slot = some n ∧ s.entryOf p t = some e := by
  obtain ⟨e, he, hport, htag, hissued, hslot⟩ := (waitsFor_entry_iff s n p t).1 (h.waits hq)
  refine ⟨e, he, hport, htag, hissued, hslot, ?_⟩
  cases hfound : s.entryOf p t with
  | none => exact absurd ⟨hport, htag⟩ ((s.entryOf_eq_none_iff p t).1 hfound e he)
  | some x =>
    have hx : (x.port == p && x.tag == t) = true := List.find?_some (p := fun e : Entry => e.port == p && e.tag == t) hfound
    simp only [Bool.and_eq_true, beq_iff_eq] at hx
    rw [h.entry_eq (List.mem_of_find?_eq_some hfound) he (hx.1.trans hport.symm) (hx.2.trans htag.symm)]

/-! ### An entry's operation -/

/-- R32: the entry is answered and removed, or it is a write that proceeds; in ABORTING it is answered. -/
theorem endEntry_tt (s : State) (e : Entry) (x : Ending) :
    (s.endEntry e x).tt = (s.removeEntry e.port e.tag).tt ∨
      s.service ≠ .aborting ∧ ∃ r, (s.endEntry e x).tt = (s.updateEntry e.port e.tag (Entry.merge r)).tt := by
  have hended := endEntry_ended s e x
  generalize s.endEntry e x = t at hended
  cases hended with
  | answered status data => exact .inl (by simp)
  | handedOn status data r poisoned _ => exact .inl (by simp)
  | kept r h => exact .inr ⟨h, r, by simp⟩

theorem endEntry_issued (s : State) (e : Entry) (x : Ending) :
    (s.endEntry e x).repairs.issued = s.repairs.issued := by
  have hended := endEntry_ended s e x
  generalize s.endEntry e x = t at hended
  cases hended with
  | answered status data => simp
  | handedOn status data r poisoned _ => simp [handOn_issued]
  | kept r _ => simp [handOn_issued]

/-- R62: in ABORTING nothing is handed on. -/
theorem endEntry_queue (s : State) (e : Entry) (x : Ending) (h : s.service = .aborting) :
    (s.endEntry e x).repairs = s.repairs := by
  rw [endEntry_aborting s e x h]
  simp

/-- Every entry of a port and tag but theirs is as it was; theirs is gone, or no longer issued. -/
theorem mem_endEntry_tt (s : State) (e : Entry) (x : Ending) (y : Entry) (hy : y ∈ (s.endEntry e x).tt) :
    (y ∈ s.tt ∧ ¬ (y.port = e.port ∧ y.tag = e.tag)) ∨
      (s.service ≠ .aborting ∧ y.isIssued = false ∧ ∃ z ∈ s.tt, y.port = z.port ∧ y.tag = z.tag) := by
  rcases endEntry_tt s e x with heq | ⟨hservice, r, heq⟩
  · rw [heq] at hy
    obtain ⟨hmem, hname⟩ := List.mem_filter.1 hy
    exact .inl ⟨hmem, fun ⟨hport, htag⟩ => by simp [hport, htag] at hname⟩
  · rw [heq] at hy
    obtain ⟨z, hz, rfl⟩ := List.mem_map.1 hy
    by_cases hname : z.port = e.port ∧ z.tag = e.tag
    · rw [if_pos (by simpa using hname)]
      exact .inr ⟨hservice, rfl, z, hz, rfl, rfl⟩
    · rw [if_neg (by simpa using hname)]
      exact .inl ⟨hz, hname⟩

theorem mem_endEntry_tt_of_other (s : State) (e : Entry) (x : Ending) (y : Entry) (hy : y ∈ s.tt)
    (hname : ¬ (y.port = e.port ∧ y.tag = e.tag)) : y ∈ (s.endEntry e x).tt := by
  rcases endEntry_tt s e x with heq | ⟨-, r, heq⟩
  · rw [heq]
    simpa [State.removeEntry, not_and_or] using ⟨hy, not_and_or.1 hname⟩
  · rw [heq]
    exact List.mem_map.2 ⟨y, hy, if_neg (by simpa using hname)⟩

theorem endEntry_tags (s : State) (e : Entry) (x : Ending) (h : TagLaw s) : TagLaw (s.endEntry e x) := by
  unfold TagLaw
  rcases endEntry_tt s e x with heq | ⟨-, r, heq⟩
  · rw [heq]
    exact h.sublist List.filter_sublist
  · rw [heq]
    refine List.pairwise_map.2 (h.imp fun hab => ?_)
    split_ifs <;> exact hab

/-- The state in which the slot of an operation has been released, all else of the laws being as in `s`. -/
structure Released (s : State) (n : SlotNumber) (t : State) : Prop where
  tt : t.tt = s.tt
  repairs : t.repairs = s.repairs
  engine : t.engine = s.engine
  scrub : t.scrub = s.scrub
  service : t.service = s.service
  slots (m : SlotNumber) : t.memory.slots[m].requester? = if n = m then none else s.memory.slots[m].requester?

namespace Released

variable {s t : State} {n : SlotNumber}

theorem waitsFor (ht : Released s n t) (m : SlotNumber) (q : Requester) : t.waitsFor m q = s.waitsFor m q :=
  waitsFor_congr ht.tt (by rw [ht.repairs]) (by rw [ht.scrub]) (by rw [ht.engine]) m q

theorem tags (ht : Released s n t) (h : ServiceAgreement s) : TagLaw t := by
  unfold TagLaw
  rw [ht.tt]
  exact h.tags

/-- R32, R62: the end of an entry's operation. -/
theorem endEntry (ht : Released s n t) (h : ServiceAgreement s) (e : Entry)
    (hn : s.memory.slots[n].requester? = some (.entry e.port e.tag)) (x : Ending) :
    ServiceAgreement (t.endEntry e x) := by
  have hservice : (t.endEntry e x).service = s.service := by simp [ht.service]
  have hnew (m : SlotNumber) (q : Requester) : (t.endEntry e x).waitsFor m q = true ↔ s.waitsFor m q = true ∧ m ≠ n := by
    by_cases hq : ∃ p g, q = .entry p g
    · obtain ⟨p, g, rfl⟩ := hq
      rw [waitsFor_entry_iff, waitsFor_entry_iff]
      constructor
      · rintro ⟨y, hy, rfl, rfl, hissued, hslot⟩
        rcases mem_endEntry_tt t e x y hy with ⟨hmem, hname⟩ | ⟨-, hnot, -⟩
        · rw [ht.tt] at hmem
          refine ⟨⟨y, hmem, rfl, rfl, hissued, hslot⟩, h.slot_ne (q' := .entry y.port y.tag) hn ?_ ?_⟩
          · exact (waitsFor_entry_iff s m _ _).2 ⟨y, hmem, rfl, rfl, hissued, hslot⟩
          · exact fun heq => hname (Requester.entry.inj heq)
        · rw [hnot] at hissued
          cases hissued
      · rintro ⟨⟨y, hy, rfl, rfl, hissued, hslot⟩, hmn⟩
        refine ⟨y, mem_endEntry_tt_of_other t e x y (ht.tt ▸ hy) (fun hname => hmn ?_), rfl, rfl, hissued, hslot⟩
        obtain ⟨z, hz, hzport, hztag, -, hzslot⟩ := (waitsFor_entry_iff s n _ _).1 (h.waits hn)
        obtain rfl := h.entry_eq hy hz (hname.1.trans hzport.symm) (hname.2.trans hztag.symm)
        exact Option.some.inj (hslot.symm.trans hzslot)
    · have hsame : (t.endEntry e x).waitsFor m q = s.waitsFor m q := by
        rw [← ht.waitsFor]
        cases q with
        | entry p g => exact absurd ⟨p, g, rfl⟩ hq
        | repair home => simp only [State.waitsFor, endEntry_issued]
        | scrub => simp [State.waitsFor]
        | copyRead => simp [State.waitsFor]
        | copyWrite => simp [State.waitsFor]
      rw [hsame]
      exact ⟨fun hw => ⟨hw, h.slot_ne hn hw fun heq => hq ⟨_, _, heq⟩⟩, fun hw => hw.1⟩
  refine ⟨endEntry_tags t e x (ht.tags h), slotLaw_of_ended h ⟨fun m => by simpa using ht.slots m, hnew⟩ ?_, ?_, ?_, ?_⟩
  · intro y hy hissued
    rcases mem_endEntry_tt t e x y hy with ⟨hmem, -⟩ | ⟨-, hnot, -⟩
    · exact ((slotLaw_iff s).1 h.slots).2 y (ht.tt ▸ hmem) hissued
    · rw [hnot] at hissued
      cases hissued
  · have := h.scrub
    unfold ScrubLaw at *
    simpa [ht.service, ht.scrub] using this
  · intro hhalted
    exact absurd (hservice ▸ hhalted) (h.not_halted hn)
  · intro haborting
    have habort : s.service = .aborting := hservice ▸ haborting
    obtain ⟨hqueue, hentries, hengine⟩ := h.aborting habort
    refine ⟨by rw [endEntry_queue t e x (ht.service.trans habort), ht.repairs]; exact hqueue, fun y hy => ?_, ?_⟩
    · rcases mem_endEntry_tt t e x y hy with ⟨hmem, -⟩ | ⟨hnot, -, -⟩
      · exact hentries y (ht.tt ▸ hmem)
      · exact absurd (ht.service.trans habort) hnot
    · simpa [ht.engine] using hengine

/-- R72: the end of an issued repair. -/
theorem endRepair (ht : Released s n t) (h : ServiceAgreement s) (home : Nat)
    (hn : s.memory.slots[n].requester? = some (.repair home)) (x : Ending) : ServiceAgreement (t.endRepair n x) := by
  have hrepairs : (t.endRepair n x).repairs =
      { s.repairs with issued := s.repairs.issued.filter fun r => r.slot != n } := by
    unfold State.endRepair
    split <;> simp [ht.repairs]
  have hnew (m : SlotNumber) (q : Requester) : (t.endRepair n x).waitsFor m q = true ↔ s.waitsFor m q = true ∧ m ≠ n := by
    by_cases hq : ∃ g, q = .repair g
    · obtain ⟨g, rfl⟩ := hq
      rw [waitsFor_repair_iff, waitsFor_repair_iff, hrepairs]
      simp only [List.mem_filter, bne_iff_ne]
      constructor
      · rintro ⟨r, ⟨hr, hne⟩, hhome, rfl⟩
        exact ⟨⟨r, hr, hhome, rfl⟩, hne⟩
      · rintro ⟨⟨r, hr, hhome, rfl⟩, hne⟩
        exact ⟨r, ⟨hr, hne⟩, hhome, rfl⟩
    · have hsame : (t.endRepair n x).waitsFor m q = s.waitsFor m q := by
        rw [← ht.waitsFor]
        cases q with
        | repair g => exact absurd ⟨g, rfl⟩ hq
        | _ => simp [State.waitsFor]
      rw [hsame]
      exact ⟨fun hw => ⟨hw, h.slot_ne hn hw fun heq => hq ⟨_, heq⟩⟩, fun hw => hw.1⟩
  refine ⟨by unfold TagLaw; simpa using ht.tags h, slotLaw_of_ended h ⟨fun m => by simpa using ht.slots m, hnew⟩ ?_,
    ?_, ?_, ?_⟩
  · intro y hy hissued
    exact ((slotLaw_iff s).1 h.slots).2 y (by simpa [ht.tt] using hy) hissued
  · have := h.scrub
    unfold ScrubLaw at *
    simpa [ht.service, ht.scrub] using this
  · intro hhalted
    exact absurd (by simpa [ht.service] using hhalted) (h.not_halted hn)
  · intro haborting
    have := h.aborting (by simpa [ht.service] using haborting)
    rw [hrepairs]
    simpa [ht.tt, ht.engine] using this

/-! ### The scrub read -/

/-- R151, R155: the scrub read ceases, once its line result has been handed on and the cursor has advanced; in ABORTING
it ceases alone. -/
theorem endScrubRead_ceases (s : State) (r : ScrubRead) (g : Location × SlotNumber) (result : Option LineResult)
    (hread : s.scrub.read = some r) (hg : r.granted = some g) :
    ∃ u : State, s.endScrubRead result = u.ceaseScrubRead ∧ u.tt = s.tt ∧
      u.repairs.issued = s.repairs.issued ∧ (s.service = .aborting → u = s) := by
  obtain ⟨home, position, granted⟩ := r
  obtain ⟨location, slot⟩ := g
  obtain rfl : granted = some (location, slot) := hg
  unfold State.endScrubRead
  simp only [hread]
  by_cases haborting : s.service = .aborting
  · exact ⟨s, if_pos haborting, rfl, rfl, fun _ => rfl⟩
  · refine ⟨_, if_neg haborting, ?_, ?_, fun h => absurd h haborting⟩
    · cases result <;> simp
    · cases result <;> simp [handOn_issued]

theorem endScrubRead (ht : Released s n t) (h : ServiceAgreement s)
    (hn : s.memory.slots[n].requester? = some .scrub) (result : Option LineResult) :
    ServiceAgreement (t.endScrubRead result) := by
  obtain ⟨r, hread, l, hg⟩ := (waitsFor_scrub_iff s n).1 (h.waits hn)
  obtain ⟨u, heq, htt, hissued, hsame⟩ := endScrubRead_ceases t r (l, n) result (by rw [ht.scrub, hread]) hg
  have hframe := t.endScrubRead_frame result
  rw [heq] at hframe ⊢
  simp only [State.ceaseScrubRead_frame] at hframe
  obtain ⟨-, hservice, -, -, -, -, hengine, hmemory, -⟩ := hframe
  have hnew (m : SlotNumber) (q : Requester) :
      u.withoutScrubRead.waitsFor m q = true ↔ s.waitsFor m q = true ∧ m ≠ n := by
    by_cases hq : q = .scrub
    · subst hq
      have hnone : u.withoutScrubRead.waitsFor m .scrub = false := by simp [waitsFor_scrub_eq, State.withoutScrubRead]
      have hsome : s.waitsFor m .scrub = true → m = n := fun hw => by
        simp only [waitsFor_scrub_eq, hread, Option.bind_some, hg, Option.map_some, beq_iff_eq] at hw
        exact (Option.some.inj hw).symm
      rw [hnone]
      exact ⟨fun hfalse => (nomatch hfalse), fun hw => absurd (hsome hw.1) hw.2⟩
    · have hwaits : u.withoutScrubRead.waitsFor m q = s.waitsFor m q := by
        cases q with
        | scrub => exact absurd rfl hq
        | entry p g => simp only [State.waitsFor, State.withoutScrubRead, htt, ht.tt]
        | repair home => simp only [State.waitsFor, State.withoutScrubRead, hissued, ht.repairs]
        | copyRead => simp only [State.waitsFor, State.withoutScrubRead, hengine, ht.engine]
        | copyWrite => simp only [State.waitsFor, State.withoutScrubRead, hengine, ht.engine]
      rw [hwaits]
      exact ⟨fun hw => ⟨hw, h.slot_ne hn hw hq⟩, fun hw => hw.1⟩
  have hagree : ServiceAgreement u.withoutScrubRead := by
    refine ⟨?_, slotLaw_of_ended h ⟨fun m => ?_, hnew⟩ ?_, ?_, fun hhalted => ?_, fun haborting => ?_⟩
    · have := ht.tags h
      unfold TagLaw at *
      exact htt ▸ this
    · exact hmemory ▸ ht.slots m
    · intro y hy hy'
      exact ((slotLaw_iff s).1 h.slots).2 y (by rw [← ht.tt, ← htt]; exact hy) hy'
    · unfold ScrubLaw scrubAgrees State.withoutScrubRead
      by_cases hrunning : u.service = .running <;> simp [hrunning]
    · exact absurd ((hservice.trans ht.service).symm.trans hhalted) (h.not_halted hn)
    · have hs : s.service = .aborting := (hservice.trans ht.service).symm.trans haborting
      obtain rfl := hsame (ht.service.trans hs)
      have := h.aborting hs
      simpa [State.withoutScrubRead, ht.repairs, ht.tt, ht.engine] using this
  exact hagree.relook

/-! ### The engine's operations -/

/-- R114, R115, R117, R118: the engine's operation ends, and the engine is no longer issued; in ABORTING it is IDLE. -/
theorem endEngine (ht : Released s n t) (h : ServiceAgreement s) {q : Requester}
    (hn : s.memory.slots[n].requester? = some q) (hq : q = .copyRead ∨ q = .copyWrite) {u : State}
    (issued : u.engine.issued? = none) (idle : s.service = .aborting → u.engine = .idle)
    (tt : u.tt = t.tt := by simp) (repairs : u.repairs = t.repairs := by simp) (scrub : u.scrub = t.scrub := by simp)
    (service : u.service = t.service := by simp) (memory : u.memory = t.memory := by simp) :
    ServiceAgreement u := by
  have hnew (m : SlotNumber) (q' : Requester) : u.waitsFor m q' = true ↔ s.waitsFor m q' = true ∧ m ≠ n := by
    by_cases hq' : q' = .copyRead ∨ q' = .copyWrite
    · have hnone : u.waitsFor m q' = false := by
        rcases hq' with rfl | rfl <;> simp only [State.waitsFor, issued] <;> rfl
      have hwaits : s.waitsFor m q' = true → m = n := fun hw => by
        have hw₁ : s.engine.issued? = some (q', m) := by
          rcases hq' with rfl | rfl
          · exact (waitsFor_copyRead_iff s m).1 hw
          · exact (waitsFor_copyWrite_iff s m).1 hw
        have hw₂ : s.engine.issued? = some (q, n) := by
          rcases hq with rfl | rfl
          · exact (waitsFor_copyRead_iff s n).1 (h.waits hn)
          · exact (waitsFor_copyWrite_iff s n).1 (h.waits hn)
        exact congrArg Prod.snd (Option.some.inj (hw₁.symm.trans hw₂))
      rw [hnone]
      exact ⟨fun hfalse => (nomatch hfalse), fun hw => absurd (hwaits hw.1) hw.2⟩
    · have hsame : u.waitsFor m q' = s.waitsFor m q' := by
        cases q' with
        | entry p g => simp only [State.waitsFor, tt, ht.tt]
        | repair home => simp only [State.waitsFor, repairs, ht.repairs]
        | scrub => simp only [State.waitsFor, scrub, ht.scrub]
        | copyRead => exact absurd (.inl rfl) hq'
        | copyWrite => exact absurd (.inr rfl) hq'
      rw [hsame]
      exact ⟨fun hw => ⟨hw, h.slot_ne hn hw fun heq => hq' (heq ▸ hq)⟩, fun hw => hw.1⟩
  refine ⟨?_, slotLaw_of_ended h ⟨fun m => memory ▸ ht.slots m, hnew⟩ ?_, ?_, fun hhalted => ?_, fun haborting => ?_⟩
  · have := ht.tags h
    unfold TagLaw at *
    exact tt ▸ this
  · intro y hy hy'
    exact ((slotLaw_iff s).1 h.slots).2 y (by rw [← ht.tt, ← tt]; exact hy) hy'
  · have := h.scrub
    unfold ScrubLaw at *
    rwa [service, ht.service, scrub, ht.scrub]
  · exact absurd ((service.trans ht.service).symm.trans hhalted) (h.not_halted hn)
  · have hs : s.service = .aborting := (service.trans ht.service).symm.trans haborting
    obtain ⟨hqueue, hentries, -⟩ := h.aborting hs
    exact ⟨by rw [repairs, ht.repairs, hqueue], by rw [tt, ht.tt]; exact hentries, .inl (idle hs)⟩

theorem revert (ht : Released s n t) (h : ServiceAgreement s) {q : Requester}
    (hn : s.memory.slots[n].requester? = some q) (hq : q = .copyRead ∨ q = .copyWrite) (m : Migration)
    (v : SpareState) : ServiceAgreement (t.revert m v) := by
  have hidle : ServiceAgreement { (t.setMap m.entry m.reverted).setSpare m.new v with engine := .idle } :=
    ht.endEngine h hn hq rfl fun _ => rfl
  exact hidle.relook

theorem failMigration (ht : Released s n t) (h : ServiceAgreement s) {q : Requester}
    (hn : s.memory.slots[n].requester? = some q) (hq : q = .copyRead ∨ q = .copyWrite) (m : Migration)
    (g : Stage) (v : SpareState) : ServiceAgreement (t.failMigration m g v) :=
  (ht.revert h hn hq m v).update (engine := rfl) (tt := rfl)

theorem commit (ht : Released s n t) (h : ServiceAgreement s)
    (hn : s.memory.slots[n].requester? = some .copyWrite) (m : Migration) : ServiceAgreement (t.commit m) := by
  refine (ht.endEngine h hn (.inr rfl) ?_ ?_ ?_ ?_ ?_ ?_ ?_).relook <;> simp
  rfl

theorem endCopyRead (ht : Released s n t) (h : ServiceAgreement s)
    (hn : s.memory.slots[n].requester? = some .copyRead) (result : Option LineResult) :
    ServiceAgreement (t.endCopyRead result) := by
  obtain ⟨m, hengine⟩ := Engine.issued?_copyRead s.engine n ((waitsFor_copyRead_iff s n).1 (h.waits hn))
  simp only [State.endCopyRead, ht.engine, hengine]
  refine iteInduction (fun _ => ht.revert h hn (.inl rfl) _ _) fun haborting => ?_
  cases result with
  | none => exact ht.failMigration h hn (.inl rfl) _ _ _
  | some r => exact ht.endEngine h hn (.inl rfl) rfl fun hs => absurd (ht.service.trans hs) haborting

theorem endCopyWrite (ht : Released s n t) (h : ServiceAgreement s)
    (hn : s.memory.slots[n].requester? = some .copyWrite) (done : Bool) :
    ServiceAgreement (t.endCopyWrite done) := by
  obtain ⟨m, content, hengine⟩ := Engine.issued?_copyWrite s.engine n ((waitsFor_copyWrite_iff s n).1 (h.waits hn))
  simp only [State.endCopyWrite, ht.engine, hengine]
  exact iteInduction (fun _ => ht.commit h hn _) fun _ => ht.failMigration h hn (.inr rfl) _ _ _

/-- The table after R138. -/
theorem endOperation (ht : Released s n t) (h : ServiceAgreement s) {q : Requester}
    (hn : s.memory.slots[n].requester? = some q) (x : Ending) : ServiceAgreement (t.endOperation n q x) := by
  unfold State.endOperation
  refine (ServiceAgreement.quiesceEnd ?_).relook
  cases q with
  | entry p g =>
    obtain ⟨e, he, rfl, rfl, -, -, hfound⟩ := h.entryOf_waiting hn
    have hfound' : t.entryOf e.port e.tag = some e := by
      unfold State.entryOf
      rw [ht.tt]
      exact hfound
    simp only [hfound']
    exact ht.endEntry h e hn x
  | repair home => exact ht.endRepair h home hn x
  | scrub => exact ht.endScrubRead h hn _
  | copyRead => exact ht.endCopyRead h hn _
  | copyWrite => exact ht.endCopyWrite h hn _

end Released

/-! ## Completions and expiries -/

theorem released_setSlot (s : State) (n : SlotNumber) (v : Slot) (hv : v.requester? = none) {t : State}
    (tt : t.tt = s.tt := by simp) (repairs : t.repairs = s.repairs := by simp)
    (engine : t.engine = s.engine := by simp) (scrub : t.scrub = s.scrub := by simp)
    (service : t.service = s.service := by simp) (memory : t.memory = (s.setSlot n v).memory := by simp) :
    Released s n t where
  tt := tt
  repairs := repairs
  engine := engine
  scrub := scrub
  service := service
  slots m := by
    rw [memory, State.setSlot_slot]
    split_ifs
    · exact hv
    · rfl

namespace ServiceAgreement

theorem complete {s : State} (h : ServiceAgreement s) (n : SlotNumber) (status : CompletionStatus) :
    ServiceAgreement (s.complete n status) := by
  unfold State.complete
  split
  · exact h.update
  · rename_i kind line l hslot
    refine h.update (slots := fun m => ?_)
    rw [State.offer_memory, State.setSlot_slot]
    split_ifs with hmn
    · subst hmn
      rw [hslot]
      rfl
    · rfl
  · rename_i kind line l q count hslot
    have hn : s.memory.slots[n].requester? = some q := by
      rw [hslot]
      rfl
    unfold State.completeBusy
    cases status with
    | done stored =>
      exact (released_setSlot s n .free rfl).endOperation h hn _
    | failed =>
      refine Released.endOperation (iteInduction (fun _ => ?_) fun _ => ?_) h hn _
      · exact released_setSlot s n .free rfl
      · exact released_setSlot s n .free rfl

theorem expire {s : State} (h : ServiceAgreement s) (n : SlotNumber) : ServiceAgreement (s.expire n) := by
  unfold State.expire
  split
  · rename_i kind line l q count hslot
    have hn : s.memory.slots[n].requester? = some q := by
      rw [hslot]
      rfl
    exact (released_setSlot s n (.orphaned kind line l) rfl).endOperation h hn _
  · exact h
  · exact h

end ServiceAgreement

end Sys2Proof.Machine
end

section
/-! PROOFS. O59: the laws of tags, slots, the scrub and the service state are kept by every action, and so is DrainLaw. -/

-- One declaration after the other: side by side, the threads with their stacks outgrow the memory of the check.
set_option Elab.async false

namespace Sys2Proof.Machine

/-! ## A grant (R31, R71, R113, R116, R150) -/

/-- The state of a grant before the requester records its issue. -/
def State.granting (s : State) (c : Candidate) (n : SlotNumber) : State :=
  let s₁ := State.setSlot { s with memory := s.memory.account c s.scrubChoice.isSome } n
    (.busy c.kind (s.physicalLine c.location) c.location c.requester 0)
  { s₁ with out := { s₁.out with memory := s₁.out.memory ++ [s.operation c n] } }

theorem grantTo_eq (s : State) (c : Candidate) (n : SlotNumber) :
    s.grantTo c n = ((s.granting c n).recordIssue c n).relook := rfl

theorem Entry.isIssued_issue (e : Entry) (kind : OpKind) (n : SlotNumber) (l : Location) :
    (e.issue kind n l).isIssued = true := by cases kind <;> rfl

/-- `u` is `s` with slot `n`, FREE before, given to `q`. -/
structure Granted (s : State) (n : SlotNumber) (q : Requester) (u : State) : Prop where
  free : s.memory.slots[n].requester? = none
  slots (m : SlotNumber) : u.memory.slots[m].requester? = if n = m then some q else s.memory.slots[m].requester?
  waits (m : SlotNumber) (q' : Requester) : u.waitsFor m q' = true ↔ s.waitsFor m q' = true ∨ (m = n ∧ q' = q)

theorem slotLaw_of_granted {s u : State} {n : SlotNumber} {q : Requester} (h : ServiceAgreement s)
    (hu : Granted s n q u) (hslots : ∀ e ∈ u.tt, e.isIssued = true → ∃ m : SlotNumber, e.slot = some m) :
    SlotLaw u := by
  have hlaw := ((slotLaw_iff s).1 h.slots).1
  refine (slotLaw_iff u).2 ⟨fun m q' => ?_, hslots⟩
  rw [hu.slots, hu.waits, ← hlaw m q']
  split_ifs with hmn
  · subst hmn
    rw [hu.free]
    simp only [reduceCtorEq, true_and, false_or, Option.some.injEq]
    exact eq_comm
  · simp [Ne.symm hmn]

theorem granted_waits_entry (s : State) (h : ServiceAgreement s) (e : Entry) (he : e ∈ s.tt)
    (hissued : e.isIssued = false) (n : SlotNumber) (kind : OpKind) (l : Location) (u : State)
    (htt : u.tt = (s.updateEntry e.port e.tag fun x => x.issue kind n l).tt) (m : SlotNumber) (p : Port) (t : Tag) :
    u.waitsFor m (.entry p t) = true ↔
      s.waitsFor m (.entry p t) = true ∨ (m = n ∧ Requester.entry p t = .entry e.port e.tag) := by
  rw [waitsFor_entry_iff, waitsFor_entry_iff, htt]
  simp only [State.updateEntry_tt, List.mem_map, Bool.and_eq_true, beq_iff_eq]
  constructor
  · rintro ⟨y, ⟨x, hx, rfl⟩, rfl, rfl, hy, hslot⟩
    by_cases hname : x.port = e.port ∧ x.tag = e.tag
    · rw [if_pos hname] at hslot ⊢
      exact .inr ⟨(Option.some.inj hslot).symm, congrArg₂ Requester.entry hname.1 hname.2⟩
    · rw [if_neg hname] at hslot hy ⊢
      exact .inl ⟨x, hx, rfl, rfl, hy, hslot⟩
  · rintro (⟨x, hx, rfl, rfl, hx', hslot⟩ | ⟨rfl, heq⟩)
    · refine ⟨x, ⟨x, hx, if_neg fun hname => ?_⟩, rfl, rfl, hx', hslot⟩
      rw [h.entry_eq hx he hname.1 hname.2, hissued] at hx'
      cases hx'
    · obtain ⟨rfl, rfl⟩ := Requester.entry.inj heq
      exact ⟨_, ⟨e, he, rfl⟩, by simp [Entry.issue], by simp [Entry.issue], by simp [Entry.isIssued_issue],
        by simp [Entry.issue]⟩

/-- R130: whoever asks does not wait yet, and waits for the slot once it has recorded its issue. -/
theorem recordIssue_waits (s : State) (h : ServiceAgreement s) (c : Candidate) (hc : Asker s c) (n : SlotNumber)
    (m : SlotNumber) (q : Requester) :
    (s.recordIssue c n).waitsFor m q = true ↔ s.waitsFor m q = true ∨ (m = n ∧ q = c.requester) := by
  cases hc with
  | entry e he hrequester hphase _ =>
    have hissued : e.isIssued = false := by rcases hphase with hp | hp <;> simp [Entry.isIssued, hp]
    unfold State.recordIssue
    rw [hrequester]
    cases q with
    | entry p t => exact granted_waits_entry s h e he hissued n c.kind c.location _ rfl m p t
    | _ => exact ⟨.inl, fun hq => hq.elim id fun hq => nomatch hq.2⟩
  | repair r rest hqueue hrequester _ =>
    unfold State.recordIssue
    rw [hrequester]
    cases q with
    | repair home =>
      rw [waitsFor_repair_iff, waitsFor_repair_iff]
      simp only [Repairs.issueHead, hqueue, List.mem_append, List.mem_singleton, Requester.repair.injEq]
      constructor
      · rintro ⟨x, hx | rfl, rfl, rfl⟩
        · exact .inl ⟨x, hx, rfl, rfl⟩
        · exact .inr ⟨rfl, rfl⟩
      · rintro (⟨x, hx, rfl, rfl⟩ | ⟨rfl, rfl⟩)
        · exact ⟨x, .inl hx, rfl, rfl⟩
        · exact ⟨_, .inr rfl, rfl, rfl⟩
    | _ => exact ⟨.inl, fun hq => hq.elim id fun hq => nomatch hq.2⟩
  | scrub r hread hgranted hrequester _ =>
    unfold State.recordIssue
    rw [hrequester]
    cases q with
    | scrub =>
      simp only [waitsFor_scrub_eq, hread, Option.map_some, Option.bind_some, hgranted, beq_iff_eq, Option.some.injEq]
      simp only [Option.map_none, reduceCtorEq, and_true, false_or]
      exact eq_comm
    | _ => exact ⟨.inl, fun hq => hq.elim id fun hq => nomatch hq.2⟩
  | copyRead mig hengine hrequester _ =>
    unfold State.recordIssue
    rw [hrequester]
    cases q with
    | copyRead =>
      simp only [waitsFor_copyRead_iff, hengine, Engine.issue, Engine.issued?, Option.some.injEq, Prod.mk.injEq,
        true_and, reduceCtorEq, false_or, and_true]
      exact eq_comm
    | copyWrite => simp [State.waitsFor, hengine, Engine.issue, Engine.issued?]
    | _ => exact ⟨.inl, fun hq => hq.elim id fun hq => nomatch hq.2⟩
  | copyWrite mig content hengine hrequester _ =>
    unfold State.recordIssue
    rw [hrequester]
    cases q with
    | copyWrite =>
      simp only [waitsFor_copyWrite_iff, hengine, Engine.issue, Engine.issued?, Option.some.injEq, Prod.mk.injEq,
        true_and, reduceCtorEq, false_or, and_true]
      exact eq_comm
    | copyRead => simp [State.waitsFor, hengine, Engine.issue, Engine.issued?]
    | _ => exact ⟨.inl, fun hq => hq.elim id fun hq => nomatch hq.2⟩

theorem recordIssue_tags (s : State) (c : Candidate) (n : SlotNumber) (h : TagLaw s) : TagLaw (s.recordIssue c n) := by
  unfold State.recordIssue
  split
  · refine List.pairwise_map.2 (h.imp fun hab => ?_)
    split_ifs <;> exact hab
  all_goals exact h

theorem recordIssue_slot (s : State) (c : Candidate) (n : SlotNumber)
    (h : ∀ e ∈ s.tt, e.isIssued = true → ∃ m : SlotNumber, e.slot = some m) :
    ∀ e ∈ (s.recordIssue c n).tt, e.isIssued = true → ∃ m : SlotNumber, e.slot = some m := by
  unfold State.recordIssue
  split
  · intro e he hissued
    obtain ⟨x, hx, rfl⟩ := List.mem_map.1 he
    split_ifs at hissued ⊢
    · exact ⟨n, rfl⟩
    · exact h x hx hissued
  all_goals exact h

/-- R150: a grant of the scrub read makes it READING; the others leave the scrub. -/
theorem recordIssue_scrubAgrees (s : State) (c : Candidate) (hc : Asker s c) (n : SlotNumber) (h : ScrubLaw s)
    (hservice : s.service = .running ∨ s.service = .stopping) : ScrubLaw (s.recordIssue c n) := by
  cases hc with
  | scrub r hread hgranted hrequester _ =>
    unfold State.recordIssue ScrubLaw scrubAgrees
    rw [hrequester]
    rcases hservice with hs | hs <;> simp [hread, hs]
  | entry e he hrequester hphase _ => unfold State.recordIssue; rw [hrequester]; exact h
  | repair r rest hqueue hrequester _ => unfold State.recordIssue; rw [hrequester]; exact h
  | copyRead m hengine hrequester _ => unfold State.recordIssue; rw [hrequester]; exact h
  | copyWrite m content hengine hrequester _ => unfold State.recordIssue; rw [hrequester]; exact h

namespace ServiceAgreement

theorem grantTo {s : State} (h : ServiceAgreement s) (c : Candidate) (n : SlotNumber) (hn : s.freeSlot = some n)
    (hc : s.chooseGrant = some c) : ServiceAgreement (s.grantTo c n) := by
  have hservice := service_of_chooseGrant s c hc
  have hasker := asker_of_chooseGrant s c hc
  have hfree : s.memory.slots[n].requester? = none := by
    rw [s.freeSlot_spec n hn]
    rfl
  have hwaits (m : SlotNumber) (q : Requester) :
      ((s.granting c n).recordIssue c n).waitsFor m q = (s.recordIssue c n).waitsFor m q := by
    unfold State.recordIssue
    split <;> rfl
  have hgranted : Granted s n c.requester ((s.granting c n).recordIssue c n) := by
    refine ⟨hfree, fun m => ?_, fun m q => ?_⟩
    · have hslot := s.grantTo_slot c n m
      rw [grantTo_eq, State.relook_memory] at hslot
      rw [hslot]
      split_ifs <;> rfl
    · rw [hwaits]
      exact recordIssue_waits s h c hasker n m q
  rw [grantTo_eq]
  refine relook ⟨recordIssue_tags _ c n h.tags, slotLaw_of_granted h hgranted ?_, ?_, fun hs => ?_, fun hs => ?_⟩
  · exact recordIssue_slot _ c n ((slotLaw_iff s).1 h.slots).2
  · have := recordIssue_scrubAgrees s c hasker n h.scrub hservice
    have hscrub : ((s.granting c n).recordIssue c n).scrub = (s.recordIssue c n).scrub := by
      unfold State.recordIssue
      split <;> rfl
    unfold ScrubLaw at *
    rw [hscrub]
    simpa [State.granting] using this
  · have hs' : s.service = .halted := by simpa [State.granting] using hs
    rw [hs'] at hservice
    rcases hservice with hx | hx <;> cases hx
  · have hs' : s.service = .aborting := by simpa [State.granting] using hs
    rw [hs'] at hservice
    rcases hservice with hx | hx <;> cases hx

end ServiceAgreement

theorem advanceCursor_scrub (s : State) :
    s.advanceCursor.scrub =
      { s.scrub with cursor := if s.scrub.cursor + 1 < s.visibleLines then s.scrub.cursor + 1 else 0 } := by
  unfold State.advanceCursor
  split_ifs <;> simp [State.passEnd]

/-! ### The ports, the countdown, takes and ticks (2.3, 6.2, ch. 8) -/

/-- R22, R23, R27: a request is accepted in RUNNING alone, and its tag is not held. -/
theorem judge_accept (s : State) (r : Request) (h : s.judge r = .accept) :
    s.service = .running ∧ ∀ e ∈ s.tt, ¬ (e.port = r.port ∧ e.tag = r.tag) := by
  unfold State.judge at h
  split at h
  · cases h
  · rename_i hclash
    have hentry : s.entryOf r.port r.tag = none := by simpa using hclash
    refine ⟨?_, (s.entryOf_eq_none_iff _ _).1 hentry⟩
    split at h
    · split at h <;> cases h
    · rename_i hservice
      exact not_not.1 hservice

/-- R27: a new entry is WAITING or READY. -/
theorem newEntry_phase (s : State) (r : Request) (n : Nat) :
    ({ newEntry r n with phase := s.phaseNow (newEntry r n) } : Entry).isIssued = false :=
  isIssued_phaseNow s (newEntry r n)

/-- R147: in WAITING there is no scrub read. -/
theorem read_of_waiting (s : State) (h : ScrubLaw s) (hstate : s.scrub.state = .waiting) : s.scrub.read = none := by
  unfold ScrubLaw scrubAgrees at h
  rw [hstate] at h
  cases hread : s.scrub.read with
  | none => rfl
  | some r =>
    rw [hread] at h
    cases h

theorem Slot.tick_requester? (v : Slot) : v.tick.requester? = v.requester? := by cases v <;> rfl

namespace ServiceAgreement

theorem accept {s : State} (h : ServiceAgreement s) (r : Request) (hservice : s.service = .running)
    (hname : ∀ e ∈ s.tt, ¬ (e.port = r.port ∧ e.tag = r.tag)) : ServiceAgreement (s.accept r) where
  tags := by
    refine List.pairwise_append.2 ⟨h.tags, List.pairwise_singleton _ _, fun a ha b hb => ?_⟩
    obtain rfl := List.mem_singleton.1 hb
    exact not_and_or.1 (hname a ha)
  slots := by
    have hlaw := (slotLaw_iff s).1 h.slots
    refine (slotLaw_iff _).2 ⟨fun n q => ?_, fun e he hissued => ?_⟩
    · have hwaits : (s.accept r).waitsFor n q = s.waitsFor n q := by
        cases q with
        | entry p t => simp [State.waitsFor, State.accept, newEntry_phase]
        | _ => rfl
      rw [hwaits]
      exact hlaw.1 n q
    · rcases List.mem_append.1 he with hmem | hnew
      · exact hlaw.2 e hmem hissued
      · obtain rfl := List.mem_singleton.1 hnew
        rw [newEntry_phase] at hissued
        cases hissued
  scrub := h.scrub
  halted hs := by
    have hs' : s.service = .halted := hs
    rw [hservice] at hs'
    cases hs'
  aborting hs := by
    have hs' : s.service = .aborting := hs
    rw [hservice] at hs'
    cases hs'

theorem present {s : State} (h : ServiceAgreement s) (r : Request) : ServiceAgreement (s.present r) := by
  unfold State.present
  split
  case h_7 hjudge =>
    obtain ⟨hservice, hname⟩ := judge_accept s r hjudge
    have hfreed : ServiceAgreement (s.setHeld r.port none) := h.update
    exact hfreed.accept r (by simpa using hservice) (by simpa using hname)
  all_goals exact h.update

theorem countdownExpiry {s : State} (h : ServiceAgreement s) (hdue : s.countdownDue = true) :
    ServiceAgreement s.countdownExpiry := by
  have hservice : s.service = .running := by
    unfold State.countdownDue at hdue
    simp only [Bool.and_eq_true, beq_iff_eq] at hdue
    exact hdue.1.1
  have hloaded : ServiceAgreement { s with scrub := { s.scrub with countdown := s.cfg.scrubInterval } } := h.update
  unfold State.countdownExpiry
  refine iteInduction (fun hwaiting => ?_) fun _ => hloaded
  have hread : s.scrub.read = none := read_of_waiting s h.scrub hwaiting
  have hcreate (t : State) (ht : ServiceAgreement t) (hts : t.service = .running) (htr : t.scrub.read = none) :
      ServiceAgreement t.createScrubRead := by
    refine ht.of_waits rfl rfl (by simp [htr]) rfl (fun _ => rfl) ?_ (fun hs => ?_) fun hs => ?_
    · simp [ScrubLaw, scrubAgrees, hts]
    · exact absurd (hts.symm.trans hs) (by decide)
    · exact absurd (hts.symm.trans hs) (by decide)
  refine iteInduction (motive := fun t : State => ServiceAgreement t.createScrubRead) (fun _ => ?_) fun _ => ?_
  · refine hcreate _ (hloaded.update (read := ?_) (state := ?_)) (by simpa using hservice) ?_
    · simp [advanceCursor_scrub]
    · simp [advanceCursor_scrub]
    · simp [advanceCursor_scrub, hread]
  · exact hcreate _ hloaded hservice hread

theorem takeHead {s : State} (h : ServiceAgreement s) (hdue : s.takeDue = true) : ServiceAgreement s.takeHead := by
  unfold State.takeDue at hdue
  simp only [Bool.and_eq_true, beq_iff_eq] at hdue
  obtain ⟨⟨hengine, hservice⟩, -⟩ := hdue
  unfold State.takeHead
  cases hsparing : s.sparing with
  | nil => exact h
  | cons r rest =>
    have hrest : ServiceAgreement { s with sparing := rest } := h.update
    simp only []
    split
    · exact hrest.update
    · split
      · exact hrest
      · refine relook (quiesceEnd (hrest.update_active ?_ ?_ (engine := ?_)))
        · simp [hservice]
        · simp [hservice]
        · simp [hengine, Engine.issued?]

theorem emitTick {s : State} (h : ServiceAgreement s) : ServiceAgreement s.emitTick := by
  refine h.update (read := ?_) (state := ?_) (slots := fun n => ?_)
  · simp [State.emitTick, State.tickCountdown]
    split_ifs <;> simp
  · simp [State.emitTick, State.tickCountdown]
    split_ifs <;> simp
  · have hmemory : s.emitTick.memory = s.tickSlots.memory := by simp [State.emitTick]
    rw [hmemory]
    unfold State.tickSlots
    split_ifs
    · rfl
    · simp only [perChunk_getElem, Slot.tick_requester?]

end ServiceAgreement

/-! ### START, STOP and RESTART (ch. 9) -/

/-- R164: an entry that is issued keeps its phase. -/
theorem relook_tt_of_issued (s : State) (h : ∀ e ∈ s.tt, e.isIssued = true) : s.relook.tt = s.tt := by
  rw [State.relook_tt]
  refine (List.map_congr_left fun e he => ?_).trans s.tt.map_id
  have hphase : s.phaseNow e = e.phase := if_pos (h e he)
  rw [hphase]
  rfl

theorem settleMigration_tt (s : State) (h : ∀ e ∈ s.tt, e.isIssued = true) : s.settleMigration.tt = s.tt := by
  unfold State.settleMigration
  split
  · rfl
  · exact relook_tt_of_issued _ h
  · exact relook_tt_of_issued _ h
  · rfl
  · exact relook_tt_of_issued _ h
  · rfl

/-- R124: a migration stays while its copy operation is issued, and is IDLE otherwise. -/
theorem settleMigration_engine (s : State) :
    s.settleMigration.engine = if s.engine.issued?.isSome then s.engine else .idle := by
  unfold State.settleMigration
  split <;> simp_all [State.revert, Engine.issued?]

theorem beginRestart_tt (s : State) : s.beginRestart.tt = s.tt.filter fun e => e.isIssued := by
  have hissued : ∀ e ∈ s.tt.filter fun e => e.isIssued, e.isIssued = true := fun e he => (List.mem_filter.1 he).2
  have hsettled (t : State) (ht : t.tt = s.tt.filter fun e => e.isIssued) :
      t.settleMigration.relook.tt = s.tt.filter fun e => e.isIssued := by
    have htt := settleMigration_tt t (by rw [ht]; exact hissued)
    rw [relook_tt_of_issued _ (by rw [htt, ht]; exact hissued), htt, ht]
  exact hsettled _ (by simp)

@[simp] theorem beginRestart_service (s : State) : s.beginRestart.service = .aborting := by simp [State.beginRestart]

theorem beginRestart_repairs (s : State) : s.beginRestart.repairs = ⟨[], s.repairs.issued⟩ := by
  simp [State.beginRestart]

theorem beginRestart_engine (s : State) :
    s.beginRestart.engine = if s.engine.issued?.isSome then s.engine else .idle := by
  simp [State.beginRestart, settleMigration_engine]

theorem beginRestart_issued? (s : State) : s.beginRestart.engine.issued? = s.engine.issued? := by
  rw [beginRestart_engine]
  split_ifs with h
  · rfl
  · exact (Option.not_isSome_iff_eq_none.1 h).symm

/-- R155: RESTART turns the scrub OFF; a PENDING read is removed. -/
theorem beginRestart_scrub (s : State) :
    s.beginRestart.scrub = { s.scrub with
      state := .off, read := s.scrub.read.filter fun r => r.granted.isSome } := by
  have habandon (t : State) : t.abandonScrub.scrub = { t.scrub with
      state := .off, read := t.scrub.read.filter fun r => r.granted.isSome } := by
    unfold State.abandonScrub
    split <;> simp_all [Option.filter]
  simp [State.beginRestart, habandon]

/-- R154. -/
theorem stopScrub_scrub (s : State) :
    s.stopScrub.scrub = { s.scrub with state := if s.scrub.state = .waiting then .off else s.scrub.state } := by
  unfold State.stopScrub
  split_ifs <;> rfl

theorem stopDrainDue_iff (s : State) :
    s.stopDrainDue = true ↔ s.service = .stopping ∧ s.tt = [] ∧ s.repairs = ⟨[], []⟩ ∧ s.engine = .idle ∧
      s.scrub.read = none := by
  cases hr : s.repairs with
  | mk queue issued => simp [State.stopDrainDue, State.stopDrained, hr, and_assoc]

theorem restartDrainDue_iff (s : State) :
    s.restartDrainDue = true ↔ s.service = .aborting ∧ s.tt = [] ∧
      (∀ n : SlotNumber, s.memory.slots[n].isBusy = false) ∧ s.engine = .idle := by
  rw [← busySlots_eq_zero_iff]
  simp [State.restartDrainDue, State.restartDrained, and_assoc]

namespace ServiceAgreement

theorem beginStart {s : State} (h : ServiceAgreement s) (hs : s.service = .halted) :
    ServiceAgreement (State.startScrub { s with service := .running }) := by
  obtain ⟨-, -, -, -, hread, -, -⟩ := h.halted hs
  refine h.of_waits rfl rfl rfl rfl (fun _ => rfl) ?_ (fun hx => (nomatch hx)) fun hx => (nomatch hx)
  by_cases hinterval : s.cfg.scrubInterval = 0 <;> simp [ScrubLaw, scrubAgrees, State.startScrub, hread, hinterval]

theorem beginStop {s : State} (h : ServiceAgreement s) (u : Bool) (hs : s.service = .running) :
    ServiceAgreement ((State.stopScrub { s with service := .stopping }).execute .stop u) := by
  refine h.of_waits (by simp) (by simp) (by simp [stopScrub_scrub]) (by simp) (by simp) ?_
    (fun hx => ?_) fun hx => ?_
  · have hscrub := h.scrub
    unfold ScrubLaw scrubAgrees at *
    rw [hs] at hscrub
    simp only [State.execute_service, State.stopScrub_frame, State.execute_scrub, stopScrub_scrub]
    cases hstate : s.scrub.state <;> cases hread : s.scrub.read <;> simp_all
  · simp at hx
  · simp at hx

/-- Nothing is BUSY where nothing waits. -/
theorem not_busy {s : State} (h : ServiceAgreement s) (tt : s.tt = []) (issued : s.repairs.issued = [])
    (engine : s.engine = .idle) (read : s.scrub.read = none) (n : SlotNumber) :
    s.memory.slots[n].isBusy = false := by
  rw [Slot.isBusy_eq]
  cases hq : s.memory.slots[n].requester? with
  | none => rfl
  | some q =>
    have hwaits := h.waits hq
    cases q <;> simp [State.waitsFor, tt, issued, engine, read, Engine.issued?] at hwaits

/-- The other way round: nothing waits where nothing is BUSY. -/
theorem not_waiting {s : State} (h : ServiceAgreement s) (hbusy : ∀ n : SlotNumber, s.memory.slots[n].isBusy = false)
    (n : SlotNumber) (q : Requester) : s.waitsFor n q = false := by
  refine Bool.eq_false_iff.2 fun hw => ?_
  have hslot := hbusy n
  rw [Slot.isBusy_eq, h.requester hw] at hslot
  cases hslot

theorem endStop {s : State} (h : ServiceAgreement s) (hdue : s.stopDrainDue = true) :
    ServiceAgreement (State.drainResult { s with service := .halted } .stop LinkCommand.stop.code) := by
  obtain ⟨hs, htt, hrepairs, hengine, hread⟩ := (stopDrainDue_iff s).1 hdue
  have hbusy := h.not_busy htt (by rw [hrepairs]) hengine hread
  have hstate : s.scrub.state = .off := by
    have hscrub := h.scrub
    unfold ScrubLaw scrubAgrees at hscrub
    rw [hread, hs] at hscrub
    cases hx : s.scrub.state <;> simp [hx] at hscrub ⊢
  refine h.of_waits (by simp) (by simp) (by simp) (by simp) (by simp) ?_ (fun _ => ?_) fun hx => ?_
  · simp [ScrubLaw, scrubAgrees, hstate, hread]
  · refine ⟨by simp [htt], by simp [hrepairs], by simp [hrepairs], by simp [hengine], by simp [hread],
      by simp [hstate], fun n => ?_⟩
    simp only [State.drainResult_frame]
    exact hbusy n
  · simp at hx

theorem endRestart {s : State} (h : ServiceAgreement s) (hdue : s.restartDrainDue = true) :
    ServiceAgreement ((State.offer
      { s with service := .halted, sparing := [], suspects := [], scrub := { s.scrub with cursor := 0 },
               lastReset := .restart }
      { kind := .restarted, origin := .service }).drainResult .restart LinkCommand.restart.code) := by
  obtain ⟨hs, htt, hbusy, hengine⟩ := (restartDrainDue_iff s).1 hdue
  obtain ⟨hqueue, -, -⟩ := h.aborting hs
  have hissued : s.repairs.issued = [] := by
    refine List.eq_nil_iff_forall_not_mem.2 fun r hr => ?_
    have hw := (waitsFor_repair_iff s r.slot r.record.home).2 ⟨r, hr, rfl, rfl⟩
    rw [h.not_waiting hbusy] at hw
    cases hw
  have hscrub : s.scrub.read = none ∧ s.scrub.state = .off := by
    have hlaw := h.scrub
    unfold ScrubLaw scrubAgrees at hlaw
    rw [hs] at hlaw
    cases hread : s.scrub.read with
    | none => cases hstate : s.scrub.state <;> simp [hread, hstate] at hlaw ⊢
    | some r =>
      cases hg : r.granted with
      | none => cases hstate : s.scrub.state <;> simp [hread, hstate, hg] at hlaw
      | some g =>
        have hw := (waitsFor_scrub_iff s g.2).2 ⟨r, hread, g.1, hg⟩
        rw [h.not_waiting hbusy] at hw
        cases hw
  obtain ⟨hread, hstate⟩ := hscrub
  refine h.of_waits (by simp) (by simp) (by simp) (by simp) (by simp) ?_ (fun _ => ?_) fun hx => ?_
  · simp [ScrubLaw, scrubAgrees, hstate, hread]
  · refine ⟨by simp [htt], by simp [hqueue], by simp [hissued], by simp [hengine], by simp [hread],
      by simp [hstate], fun n => ?_⟩
    simp only [State.drainResult_frame, State.offer_memory]
    exact hbusy n
  · simp at hx

theorem beginRestart {s : State} (h : ServiceAgreement s) : ServiceAgreement s.beginRestart where
  tags := by
    unfold TagLaw
    rw [beginRestart_tt]
    exact h.tags.sublist List.filter_sublist
  slots := by
    have hlaw := (slotLaw_iff s).1 h.slots
    refine (slotLaw_iff _).2 ⟨fun n q => ?_, fun e he hissued => ?_⟩
    · have hwaits : s.beginRestart.waitsFor n q = s.waitsFor n q := by
        cases q with
        | entry p t =>
          simp only [State.waitsFor, beginRestart_tt, List.any_filter]
          congr 1
          funext e
          cases e.isIssued <;> simp
        | repair home => simp only [State.waitsFor, beginRestart_repairs]
        | scrub =>
          simp only [waitsFor_scrub_eq, beginRestart_scrub]
          cases s.scrub.read with
          | none => rfl
          | some r => cases hg : r.granted <;> simp [Option.filter, hg]
        | copyRead => simp only [State.waitsFor, beginRestart_issued?]
        | copyWrite => simp only [State.waitsFor, beginRestart_issued?]
      rw [hwaits, beginRestart_slots]
      exact hlaw.1 n q
    · rw [beginRestart_tt] at he
      exact hlaw.2 e (List.mem_filter.1 he).1 hissued
  scrub := by
    unfold ScrubLaw scrubAgrees
    rw [beginRestart_service, beginRestart_scrub]
    cases s.scrub.read with
    | none => rfl
    | some r => cases hg : r.granted <;> simp [Option.filter, hg]
  halted hs := by
    rw [beginRestart_service] at hs
    cases hs
  aborting _ := by
    rw [beginRestart_repairs, beginRestart_tt, beginRestart_engine]
    refine ⟨rfl, fun e he => (List.mem_filter.1 he).2, ?_⟩
    cases hx : s.engine.issued? <;> simp [hx]

theorem configure {s t : State} (h : ServiceAgreement s) (ht : ConfigureEffect s t) : ServiceAgreement t := by
  cases ht <;> exact h.update (tt := rfl) (repairs := rfl) (engine := rfl) (read := rfl) (state := rfl)
    (slots := fun _ => rfl) (service := rfl)

theorem atDefault (s : State) (pin : ResetPin) : ServiceAgreement (s.atDefault pin) where
  tags := List.Pairwise.nil
  slots := by
    refine (slotLaw_iff _).2 ⟨fun n q => ?_, fun e he => nomatch he⟩
    have hfree : (s.atDefault pin).memory.slots[n].requester? = none := by
      simp [State.atDefault, State.reset, Slot.requester?]
    rw [hfree]
    cases q <;> simp [State.waitsFor, State.atDefault, State.reset, Engine.issued?]
  scrub := rfl
  halted _ := by simp [State.atDefault, State.reset, Slot.isBusy]
  aborting hs := nomatch hs

end ServiceAgreement

theorem serviceAgreement_kept : KeptByActions ServiceAgreement where
  out _ _ h := h.update
  pending _ _ h := h.update
  draws _ _ h := h.update
  frameClosed _ _ h := h.update
  atDefault s pin _ := .atDefault s pin
  hold _ _ _ _ _ _ h := h.update
  overrun _ h := h.update
  delivered _ _ h := h.update
  setHeld _ _ h := h.update
  present _ r h := h.present r
  grantTo _ c n hn hc h := h.grantTo c n hn hc
  complete _ n status h := h.complete n status
  expire _ n h := h.expire n
  countdownExpiry _ hdue h := h.countdownExpiry hdue
  takeHead _ hdue h := h.takeHead hdue
  emitTick _ h := h.emitTick
  microseconds _ _ h := h.update
  beginStart _ hs h := h.beginStart hs
  beginStop _ u hs h := h.beginStop u hs
  endStop _ hdue h := h.endStop hdue
  beginRestart _ _ h := h.beginRestart.update
  endRestart _ hdue h := h.endRestart hdue
  configure _ _ ht h := h.configure ht
  loadMap _ _ _ _ _ _ _ _ h := h.update
  loadRetired _ _ _ _ h := h.update
  requestSpare _ _ _ h := h.update
  takeEvent _ h := h.update
  clearCounters _ h := h.update

/-! ## The command slot and the drains (R158, R188) -/

theorem drainLaw_congr {s t : State} (h : DrainLaw s) (service : t.service = s.service := by simp)
    (slot : t.link.slot = s.link.slot := by simp) : DrainLaw t := by
  unfold DrainLaw
  rw [service, slot]
  exact h

theorem not_executing (l : CommandSlot) (h : l.isExecuting = false) (d : DrainCommand) : ¬ ∃ b, l = .executing d b := by
  rintro ⟨b, rfl⟩
  cases h

/-- R158: a slot that is not EXECUTING goes with HALTED and RUNNING. -/
theorem drainLaw_iff_of_idle (s : State) (h : s.link.slot.isExecuting = false) :
    DrainLaw s ↔ s.service ≠ .stopping ∧ s.service ≠ .aborting := by
  simp only [DrainLaw, not_executing _ h, iff_false, ne_eq]

theorem isExecuting_of_drainLaw {s : State} (h : DrainLaw s) (hstop : s.service ≠ .stopping)
    (hrestart : s.service ≠ .aborting) : s.link.slot.isExecuting = false := by
  cases hslot : s.link.slot with
  | executing d b =>
    cases d with
    | stop => exact absurd (h.1.2 ⟨b, hslot⟩) hstop
    | restart => exact absurd (h.2.2 ⟨b, hslot⟩) hrestart
  | _ => rfl

/-- R189: a slot that is not EXECUTING gets another result, or is emptied. -/
theorem drainLaw_idle {s t : State} (h : DrainLaw s) (slot : s.link.slot.isExecuting = false)
    (slot' : t.link.slot.isExecuting = false) (service : t.service = s.service) : DrainLaw t := by
  rw [drainLaw_iff_of_idle t slot', service]
  exact (drainLaw_iff_of_idle s slot).1 h

/-- R158: a drain begins. -/
theorem drainLaw_stopping (s : State) (u : Bool) (hservice : s.service = .stopping) : DrainLaw (s.execute .stop u) := by
  simp [DrainLaw, hservice]

theorem drainLaw_aborting (s : State) (u : Bool) (hservice : s.service = .aborting) : DrainLaw (s.execute .restart u) := by
  simp [DrainLaw, hservice]

/-- R162, R166: the drain's result is held. -/
theorem drainResult_link (s : State) (c : DrainCommand) (code : Byte) (b : Bool) (h : s.link.slot = .executing c b) :
    s.drainResult c code = s.hold code .ok [] b := by
  simp [State.drainResult, h]

theorem drainLaw_drained (s : State) (c : DrainCommand) (code : Byte) (hservice : s.service = .halted)
    (h : ∃ b, s.link.slot = .executing c b) : DrainLaw (s.drainResult c code) := by
  obtain ⟨b, hb⟩ := h
  rw [drainResult_link s c code b hb, drainLaw_iff_of_idle _ rfl]
  simp [hservice]

theorem drainLaw_kept : KeptByActions DrainLaw where
  atDefault _ _ _ := (drainLaw_iff_of_idle _ rfl).2 ⟨nofun, nofun⟩
  hold _ _ _ _ _ hslot h := drainLaw_idle h hslot rfl rfl
  overrun _ h := h
  delivered _ hslot h := drainLaw_idle h hslot rfl rfl
  setHeld _ _ h := drainLaw_congr h
  present _ _ h := drainLaw_congr h
  grantTo _ _ _ _ _ h := drainLaw_congr h
  complete _ _ _ h := drainLaw_congr h
  expire _ _ h := drainLaw_congr h
  countdownExpiry _ _ h := drainLaw_congr h
  takeHead _ _ h := drainLaw_congr h
  emitTick _ h := drainLaw_congr h
  beginStart s hs h := by
    have hslot : s.link.slot.isExecuting = false := isExecuting_of_drainLaw h (by simp [hs]) (by simp [hs])
    rw [drainLaw_iff_of_idle _ (by simpa using hslot)]
    simp
  beginStop s u hs h := drainLaw_stopping _ u (by simp)
  endStop s hdue h :=
    drainLaw_drained _ _ _ rfl (h.1.1 ((stopDrainDue_iff s).1 hdue).1)
  beginRestart s u h := drainLaw_aborting _ u (by simp)
  endRestart s hdue h :=
    drainLaw_drained _ _ _ rfl (h.2.1 ((restartDrainDue_iff s).1 hdue).1)
  configure s t ht h := by cases ht <;> exact drainLaw_congr h rfl rfl
  loadMap _ _ _ _ _ _ _ _ h := drainLaw_congr h
  loadRetired _ _ _ _ h := drainLaw_congr h
  requestSpare _ _ _ h := drainLaw_congr h

end Sys2Proof.Machine

namespace Sys2Proof.Proofs

open Sys2Proof.Machine

/-- Settles O59: every action keeps the agreement of tags, slots, the scrub and the service state, and every action
keeps that of the command slot and the drains. -/
theorem serviceStatesKeepTheirLaws : Obligations.ServiceStatesKeepTheirLaws := by
  refine ⟨fun s s' h hstep => ?_, fun s s' h hstep => drainLaw_kept.step s s' hstep h⟩
  exact (serviceAgreement_iff s').1 (serviceAgreement_kept.step s s' hstep ((serviceAgreement_iff s).2 h))

end Sys2Proof.Proofs
end

section
/-! PROOFS. O60: acceptance order and the phases of the entries (2.5, 2.6, 2.7). -/

-- One declaration after the other: side by side, the threads with their stacks outgrow the memory of the check.
set_option Elab.async false

namespace Sys2Proof.Machine

/-! ## Acceptance order (R28) -/

theorem orderLaw_iff (s : State) :
    OrderLaw s ↔ (∀ p ∈ s.tt.map Entry.position, p < s.nextPosition) ∧
      (∀ p ∈ s.repairs.queue.map RepairRecord.position, p < s.nextPosition) ∧
      (∀ p ∈ s.scrub.read.map ScrubRead.position, p < s.nextPosition) ∧
      (s.tt.map Entry.position).Pairwise (· < ·) := by
  simp only [OrderLaw, List.forall_mem_map, List.pairwise_map, Option.mem_def, Option.map_eq_some_iff,
    forall_exists_index, and_imp, forall_apply_eq_imp_iff₂]

namespace OrderLaw

/-- An action that gives no new place in acceptance order. -/
theorem update {s t : State} (h : OrderLaw s)
    (tt : (t.tt.map Entry.position).Sublist (s.tt.map Entry.position) := by simp)
    (queue : t.repairs.queue.map RepairRecord.position ⊆ s.repairs.queue.map RepairRecord.position := by simp)
    (read : ∀ p ∈ t.scrub.read.map ScrubRead.position, p ∈ s.scrub.read.map ScrubRead.position := by simp)
    (next : t.nextPosition = s.nextPosition := by simp) : OrderLaw t := by
  rw [orderLaw_iff] at h ⊢
  obtain ⟨hentries, hrepairs, hread, hpairs⟩ := h
  rw [next]
  exact ⟨fun p hp => hentries p (tt.subset hp), fun p hp => hrepairs p (queue hp), fun p hp => hread p (read p hp),
    hpairs.sublist tt⟩

theorem relook {s : State} (h : OrderLaw s) : OrderLaw s.relook :=
  h.update (tt := by simp [Function.comp_def])

theorem filter_positions (l : List Entry) (p : Entry → Bool) :
    ((l.filter p).map Entry.position).Sublist (l.map Entry.position) := List.filter_sublist.map _

theorem answer {s : State} (h : OrderLaw s) (e : Entry) (status : ResponseStatus) (data : List Byte) :
    OrderLaw (s.answer e status data) :=
  h.update (tt := by rw [State.answer_tt]; exact filter_positions _ _)

theorem updateEntry {s : State} (h : OrderLaw s) (p : Port) (t : Tag) (f : Entry → Entry)
    (hf : ∀ e, (f e).position = e.position) : OrderLaw (s.updateEntry p t f) := by
  have hpositions : (s.updateEntry p t f).tt.map Entry.position = s.tt.map Entry.position := by
    rw [State.updateEntry_tt, List.map_map]
    refine List.map_congr_left fun e _ => ?_
    simp only [Function.comp_apply]
    split_ifs
    · exact hf e
    · rfl
  exact h.update (tt := by rw [hpositions])

/-! ### What a read hands on -/

/-- R64, R69: a new record takes the next position. -/
theorem settleRepair {s : State} (h : OrderLaw s) (src : ReadSource) (l : List (ChunkNumber × ChunkContent)) :
    OrderLaw (s.settleRepair src l) := by
  unfold State.settleRepair
  refine iteInduction (fun _ => h) fun _ => iteInduction (fun _ => ?_) fun _ => iteInduction (fun _ => h.update)
    fun _ => ?_
  · refine h.update (queue := ?_)
    have hpositions : (s.repairs.queue.map fun r =>
        if r.home == src.home then { r with chunks := mergeChunks r.chunks l } else r).map RepairRecord.position =
        s.repairs.queue.map RepairRecord.position := by
      rw [List.map_map]
      refine List.map_congr_left fun r _ => ?_
      simp only [Function.comp_apply]
      split_ifs <;> rfl
    exact fun p hp => hpositions ▸ hp
  · obtain ⟨hentries, hrepairs, hread, hpairs⟩ := h
    refine ⟨fun e he => (hentries e he).trans (Nat.lt_succ_self _), fun r hr => ?_,
      fun r hr => (hread r hr).trans (Nat.lt_succ_self _), hpairs⟩
    rcases List.mem_append.1 hr with hr | hr
    · exact (hrepairs r hr).trans (Nat.lt_succ_self _)
    · obtain rfl := List.mem_singleton.1 hr
      exact Nat.lt_succ_self _

theorem handOn {s : State} (h : OrderLaw s) (src : ReadSource) (r : LineResult) (repair : Bool) :
    OrderLaw (s.handOn src r repair) := by
  have hoffered : OrderLaw (if repair then s.offerRepair src r else s) :=
    iteInduction (fun _ => iteInduction (fun _ => h.settleRepair src _) fun _ => h) fun _ => h
  have hupdated : OrderLaw (if correctedChunks r = [] then (if repair then s.offerRepair src r else s)
      else (if repair then s.offerRepair src r else s).suspectUpdate src.location src.origin src.tag) :=
    iteInduction (fun _ => hoffered) fun _ => hoffered.update
  exact iteInduction (fun _ => hupdated) fun _ => hupdated.update

theorem reportRead {s : State} (h : OrderLaw s) (src : ReadSource) (r : LineResult) (l : List ChunkNumber) :
    OrderLaw (s.reportRead src r l) := h.update

/-! ### The end of an operation -/

theorem endEntry {s : State} (h : OrderLaw s) (e : Entry) (x : Ending) : OrderLaw (s.endEntry e x) := by
  have hended := endEntry_ended s e x
  generalize s.endEntry e x = t at hended
  cases hended with
  | answered status data => exact h.answer e status data
  | handedOn status data r poisoned _ => exact ((h.answer e status data).reportRead _ _ _).handOn _ _ _
  | kept r _ => exact ((h.updateEntry e.port e.tag (Entry.merge r) fun _ => rfl).reportRead _ _ _).handOn _ _ _

theorem endRepair {s : State} (h : OrderLaw s) (n : SlotNumber) (x : Ending) : OrderLaw (s.endRepair n x) := by
  unfold State.endRepair
  exact iteInduction (fun _ => h.update) fun _ => h.update

theorem ceaseScrubRead {s : State} (h : OrderLaw s) : OrderLaw s.ceaseScrubRead := by
  have hceased : OrderLaw s.withoutScrubRead := 
    h.update (List.Sublist.refl _) (List.Subset.refl _) (by simp [State.withoutScrubRead]) rfl
  exact hceased.relook

theorem advanceCursor {s : State} (h : OrderLaw s) : OrderLaw s.advanceCursor :=
  h.update (read := by simp [advanceCursor_scrub])

theorem endScrubRead {s : State} (h : OrderLaw s) (result : Option LineResult) : OrderLaw (s.endScrubRead result) := by
  unfold State.endScrubRead
  split
  · refine iteInduction (fun _ => h.ceaseScrubRead) fun _ => (advanceCursor ?_).ceaseScrubRead
    cases result with
    | none => exact h
    | some r => exact (h.reportRead _ _ _).handOn _ _ _
  · exact h
  · exact h

theorem revert {s : State} (h : OrderLaw s) (m : Migration) (v : SpareState) : OrderLaw (s.revert m v) := by
  have hidle : OrderLaw { (s.setMap m.entry m.reverted).setSpare m.new v with engine := .idle } := h.update
  exact hidle.relook

theorem failMigration {s : State} (h : OrderLaw s) (m : Migration) (g : Stage) (v : SpareState) :
    OrderLaw (s.failMigration m g v) := h.revert m v

theorem commit {s : State} (h : OrderLaw s) (m : Migration) : OrderLaw (s.commit m) := by
  unfold State.commit
  refine (h.update ?_ ?_ ?_ ?_).relook <;> simp

theorem endCopyRead {s : State} (h : OrderLaw s) (result : Option LineResult) : OrderLaw (s.endCopyRead result) := by
  unfold State.endCopyRead
  split
  · refine iteInduction (fun _ => h.revert _ _) fun _ => ?_
    cases result with
    | none => exact h.failMigration _ _ _
    | some r => exact h.update
  all_goals exact h

theorem endCopyWrite {s : State} (h : OrderLaw s) (done : Bool) : OrderLaw (s.endCopyWrite done) := by
  unfold State.endCopyWrite
  split
  · exact iteInduction (fun _ => h.commit _) fun _ => h.failMigration _ _ _
  all_goals exact h

theorem endOperation {s : State} (h : OrderLaw s) (n : SlotNumber) (q : Requester) (x : Ending) :
    OrderLaw (s.endOperation n q x) := by
  have hquiesce (t : State) (ht : OrderLaw t) : OrderLaw t.quiesceEnd.relook := relook (ht.update)
  refine hquiesce _ ?_
  cases q with
  | entry p t =>
    simp only []
    split
    · exact h.endEntry _ x
    · exact h
  | repair home => exact h.endRepair n x
  | scrub => exact h.endScrubRead _
  | copyRead => exact h.endCopyRead _
  | copyWrite => exact h.endCopyWrite _

/-! ### The other actions -/

theorem complete {s : State} (h : OrderLaw s) (n : SlotNumber) (status : CompletionStatus) :
    OrderLaw (s.complete n status) := by
  have hfreed : OrderLaw (s.setSlot n .free) := h.update
  unfold State.complete
  split
  · exact h.update
  · exact hfreed.update
  · unfold State.completeBusy
    cases status with
    | done stored => exact endOperation (hfreed.update) _ _ _
    | failed => exact endOperation (iteInduction (fun _ => hfreed) fun _ => hfreed.update) _ _ _

theorem expire {s : State} (h : OrderLaw s) (n : SlotNumber) : OrderLaw (s.expire n) := by
  unfold State.expire
  split
  · exact endOperation (h.update) _ _ _
  · exact h
  · exact h

theorem accept {s : State} (h : OrderLaw s) (r : Request) : OrderLaw (s.accept r) := by
  obtain ⟨hentries, hrepairs, hread, hpairs⟩ := h
  refine ⟨fun e he => ?_, fun r hr => (hrepairs r hr).trans (Nat.lt_succ_self _),
    fun r hr => (hread r hr).trans (Nat.lt_succ_self _), ?_⟩
  · rcases List.mem_append.1 he with he | he
    · exact (hentries e he).trans (Nat.lt_succ_self _)
    · obtain rfl := List.mem_singleton.1 he
      exact Nat.lt_succ_self _
  · refine List.pairwise_append.2 ⟨hpairs, List.pairwise_singleton _ _, fun a ha b hb => ?_⟩
    obtain rfl := List.mem_singleton.1 hb
    exact hentries a ha

theorem present {s : State} (h : OrderLaw s) (r : Request) : OrderLaw (s.present r) := by
  have hfreed : OrderLaw (s.setHeld r.port none) := h.update
  unfold State.present
  split
  case h_7 => exact hfreed.accept r
  case h_2 => exact h.update
  all_goals exact hfreed.update

theorem grantTo {s : State} (h : OrderLaw s) (c : Candidate) (n : SlotNumber) : OrderLaw (s.grantTo c n) := by
  have hgranting : OrderLaw (s.granting c n) := h
  have hrecorded : OrderLaw ((s.granting c n).recordIssue c n) := by
    unfold State.recordIssue
    split
    · exact hgranting.updateEntry _ _ _ fun _ => rfl
    · refine hgranting.update (List.Sublist.refl _) ?_ (fun _ hp => hp) rfl
      unfold Repairs.issueHead
      split
      · exact List.Subset.refl _
      · rename_i hqueue
        rw [hqueue]
        exact List.subset_cons_self _ _
    · refine hgranting.update (List.Sublist.refl _) (List.Subset.refl _) (fun p hp => ?_) rfl
      simp only [Option.map_map] at hp
      exact hp
    · exact hgranting
    · exact hgranting
  exact hrecorded.relook

theorem createScrubRead {s : State} (h : OrderLaw s) : OrderLaw s.createScrubRead := by
  obtain ⟨hentries, hrepairs, -, hpairs⟩ := h
  refine ⟨fun e he => (hentries e he).trans (Nat.lt_succ_self _),
    fun r hr => (hrepairs r hr).trans (Nat.lt_succ_self _), fun r hr => ?_, hpairs⟩
  obtain rfl := Option.some.inj hr
  exact Nat.lt_succ_self _

theorem countdownExpiry {s : State} (h : OrderLaw s) : OrderLaw s.countdownExpiry := by
  have hloaded : OrderLaw { s with scrub := { s.scrub with countdown := s.cfg.scrubInterval } } := h
  unfold State.countdownExpiry
  refine iteInduction (fun _ => createScrubRead ?_) fun _ => hloaded
  exact iteInduction (fun _ => hloaded.advanceCursor) fun _ => hloaded

theorem takeHead {s : State} (h : OrderLaw s) : OrderLaw s.takeHead := by
  unfold State.takeHead
  cases s.sparing with
  | nil => exact h
  | cons r rest =>
    have hrest : OrderLaw { s with sparing := rest } := h
    simp only []
    split
    · exact hrest.update
    · split
      · exact hrest
      · rename_i n _ i old _
        have htaken (t : State) (ht : OrderLaw t) : OrderLaw t.quiesceEnd.relook := relook (ht.update)
        refine htaken _ (hrest.update (queue := ?_))
        exact (List.filter_sublist.map _).subset

theorem emitTick {s : State} (h : OrderLaw s) : OrderLaw s.emitTick := by
  refine h.update (read := ?_)
  unfold State.emitTick State.tickCountdown
  split_ifs <;> simp

theorem beginRestart {s : State} (h : OrderLaw s) : OrderLaw s.beginRestart := by
  refine h.update (tt := ?_) (queue := by simp [beginRestart_repairs]) (read := fun p hp => ?_)
  · rw [beginRestart_tt]
    exact filter_positions _ _
  · rw [beginRestart_scrub] at hp
    obtain ⟨r, hr, rfl⟩ := Option.map_eq_some_iff.1 hp
    exact Option.map_eq_some_iff.2 ⟨r, (Option.filter_eq_some_iff.1 hr).1, rfl⟩

theorem configure {s t : State} (h : OrderLaw s) (ht : ConfigureEffect s t) : OrderLaw t := by cases ht <;> exact h

theorem atDefault (s : State) (pin : ResetPin) : OrderLaw (s.atDefault pin) :=
  ⟨nofun, nofun, nofun, List.Pairwise.nil⟩

end OrderLaw

/-! ## The hazard rule after a step (R30, R34, R36) -/

/-- What decides the phase of an entry: the entries but for their phases, the Repair Queue, the scrub read, the map. -/
theorem phaseNow_congr {s t : State} (tt : SameButPhases t.tt s.tt) (repairs : t.repairs = s.repairs)
    (read : t.scrub.read = s.scrub.read) (map : t.map = s.map) (e : Entry) : t.phaseNow e = s.phaseNow e := by
  have hany (p : Entry → Bool) (hp : ∀ x, p x = p x.unphased) : t.tt.any p = s.tt.any p := by
    have hcomp (l : List Entry) : l.any p = (l.map Entry.unphased).any p := by
      rw [List.any_map]
      congr 1
      exact funext hp
    rw [hcomp, hcomp s.tt, tt]
  have hheld : t.held e = s.held e := by
    unfold State.held State.hazardA State.hazardB State.hazardC
    rw [hany _ fun _ => rfl, hany _ fun _ => rfl, repairs, read, State.isMoving_congr map]
  unfold State.phaseNow
  rw [hheld]

/-- `phaseNow` of an entry that has looked. -/
theorem phaseNow_phaseNow (s : State) (e : Entry) : s.phaseNow { e with phase := s.phaseNow e } = s.phaseNow e := by
  have hheld : s.held { e with phase := s.phaseNow e } = s.held e := rfl
  have hresult : ({ e with phase := s.phaseNow e } : Entry).readResult = e.readResult := rfl
  have hissued := isIssued_phaseNow s e
  rw [State.phaseNow, hissued, hheld, hresult]
  by_cases h : e.isIssued = true
  · rw [if_pos h]
  · rw [if_neg h, State.phaseNow, if_neg h]

theorem phaseLaw_relook (s : State) : PhaseLaw s.relook := by
  intro e he
  obtain ⟨x, -, rfl⟩ := (mem_relook s e).1 he
  rw [phaseNow_congr (relook_sameButPhases s) rfl rfl rfl]
  exact (phaseNow_phaseNow s x).symm

namespace PhaseLaw

/-- Actions that leave what decides the phases. -/
theorem update {s t : State} (h : PhaseLaw s) (tt : t.tt = s.tt := by simp) (repairs : t.repairs = s.repairs := by simp)
    (read : t.scrub.read = s.scrub.read := by simp) (map : t.map = s.map := by simp) : PhaseLaw t := by
  intro e he
  rw [tt] at he
  rw [phaseNow_congr (by rw [tt]) repairs read map]
  exact h e he

theorem of_nil {s : State} (h : s.tt = []) : PhaseLaw s := by
  intro e he
  rw [h] at he
  cases he

theorem complete {s : State} (h : PhaseLaw s) (n : SlotNumber) (status : CompletionStatus) :
    PhaseLaw (s.complete n status) := by
  unfold State.complete
  split
  · exact h.update
  · exact h.update
  · cases status <;> exact phaseLaw_relook _

theorem expire {s : State} (h : PhaseLaw s) (n : SlotNumber) : PhaseLaw (s.expire n) := by
  unfold State.expire
  split
  · exact phaseLaw_relook _
  · exact h
  · exact h

theorem takeHead {s : State} (h : PhaseLaw s) : PhaseLaw s.takeHead := by
  unfold State.takeHead
  cases s.sparing with
  | nil => exact h
  | cons r rest =>
    have hrest : PhaseLaw { s with sparing := rest } := h
    simp only []
    split
    · exact hrest.update
    · split
      · exact hrest
      · exact phaseLaw_relook _

/-- R28: an entry accepted last holds no other entry. -/
theorem phaseNow_accept (s : State) (r : Request) (e : Entry) (he : e.position ≤ s.nextPosition) :
    (s.accept r).phaseNow e = s.phaseNow e := by
  have hlater : ¬ (newEntry r s.nextPosition).position < e.position := Nat.not_lt.2 he
  have hheld : (s.accept r).held e = s.held e := by
    simp [State.held, State.hazardA, State.hazardB, State.hazardC, State.accept, State.isMoving_congr (s := s),
      hlater]
  unfold State.phaseNow
  rw [hheld]

theorem accept {s : State} (h : PhaseLaw s) (horder : OrderLaw s) (r : Request) : PhaseLaw (s.accept r) := by
  intro e he
  rcases List.mem_append.1 he with hmem | hnew
  · rw [phaseNow_accept s r e (Nat.le_of_lt (horder.1 e hmem))]
    exact h e hmem
  · obtain rfl := List.mem_singleton.1 hnew
    rw [phaseNow_accept s r _ (Nat.le_refl _)]
    exact (phaseNow_phaseNow s (newEntry r s.nextPosition)).symm

theorem present {s : State} (h : PhaseLaw s) (horder : OrderLaw s) (r : Request) : PhaseLaw (s.present r) := by
  have hfreed : PhaseLaw (s.setHeld r.port none) := h.update
  unfold State.present
  split
  case h_7 => exact hfreed.accept (horder.update) r
  case h_2 => exact h.update
  all_goals exact hfreed.update

/-- R37: a scrub read created last holds no entry. -/
theorem createScrubRead {s : State} (h : PhaseLaw s) (horder : OrderLaw s) (hread : s.scrub.read = none) :
    PhaseLaw s.createScrubRead := by
  intro e he
  have hlater : ¬ s.nextPosition < e.position := Nat.not_lt.2 (Nat.le_of_lt (horder.1 e he))
  have hheld : s.createScrubRead.held e = s.held e := by
    have hmap : s.createScrubRead.isMoving e.home = s.isMoving e.home := State.isMoving_congr rfl _
    simp [State.held, State.hazardA, State.hazardB, State.hazardC, hmap, hread, hlater]
  rw [h e he]
  unfold State.phaseNow
  rw [hheld]

end PhaseLaw

/-- The laws of O60 with the one they rest on. -/
structure Ordered (s : State) : Prop where
  service : ServiceAgreement s
  order : OrderLaw s
  phases : PhaseLaw s

theorem PhaseLaw.countdownExpiry {s : State} (h : Ordered s) : PhaseLaw s.countdownExpiry := by
  have hphases : PhaseLaw { s with scrub := { s.scrub with countdown := s.cfg.scrubInterval } } := h.phases.update
  have horder : OrderLaw { s with scrub := { s.scrub with countdown := s.cfg.scrubInterval } } := h.order
  unfold State.countdownExpiry
  refine iteInduction (fun hwaiting => ?_) fun _ => hphases
  have hread : s.scrub.read = none := read_of_waiting s h.service.scrub hwaiting
  refine iteInduction (motive := fun t : State => PhaseLaw t.createScrubRead) (fun _ => ?_) fun _ => ?_
  · refine (hphases.update (read := ?_)).createScrubRead horder.advanceCursor ?_
    · simp [advanceCursor_scrub]
    · simp [advanceCursor_scrub, hread]
  · exact hphases.createScrubRead horder hread

theorem PhaseLaw.emitTick {s : State} (h : PhaseLaw s) : PhaseLaw s.emitTick := by
  refine h.update (read := ?_)
  unfold State.emitTick State.tickCountdown
  split_ifs <;> simp

theorem PhaseLaw.configure {s t : State} (h : PhaseLaw s) (ht : ConfigureEffect s t) : PhaseLaw t := by
  cases ht <;> exact h.update rfl rfl rfl rfl

theorem ordered_kept : KeptByActions Ordered where
  out s o h := ⟨serviceAgreement_kept.out s o h.service, h.order, h.phases.update⟩
  pending s l h := ⟨serviceAgreement_kept.pending s l h.service, h.order, h.phases.update⟩
  draws s n h := ⟨serviceAgreement_kept.draws s n h.service, h.order, h.phases.update⟩
  frameClosed s ho h := ⟨serviceAgreement_kept.frameClosed s ho h.service, h.order, h.phases.update⟩
  atDefault s pin _ := ⟨.atDefault s pin, .atDefault s pin, .of_nil rfl⟩
  hold s c t b u hs h := ⟨serviceAgreement_kept.hold s c t b u hs h.service, h.order, h.phases.update⟩
  overrun s h := ⟨serviceAgreement_kept.overrun s h.service, h.order, h.phases.update⟩
  delivered s hs h := ⟨serviceAgreement_kept.delivered s hs h.service, h.order, h.phases.update⟩
  setHeld s r h := ⟨serviceAgreement_kept.setHeld s r h.service, h.order.update, h.phases.update⟩
  present _ r h := ⟨h.service.present r, h.order.present r, h.phases.present h.order r⟩
  grantTo _ c n hn hc h := ⟨h.service.grantTo c n hn hc, h.order.grantTo c n, phaseLaw_relook _⟩
  complete _ n status h := ⟨h.service.complete n status, h.order.complete n status, h.phases.complete n status⟩
  expire _ n h := ⟨h.service.expire n, h.order.expire n, h.phases.expire n⟩
  countdownExpiry _ hdue h := ⟨h.service.countdownExpiry hdue, h.order.countdownExpiry, .countdownExpiry h⟩
  takeHead _ hdue h := ⟨h.service.takeHead hdue, h.order.takeHead, h.phases.takeHead⟩
  emitTick _ h := ⟨h.service.emitTick, h.order.emitTick, h.phases.emitTick⟩
  microseconds s n h := ⟨serviceAgreement_kept.microseconds s n h.service, h.order, h.phases.update⟩
  beginStart _ hs h := ⟨h.service.beginStart hs, h.order, h.phases.update (read := rfl)⟩
  beginStop _ u hs h := ⟨h.service.beginStop u hs, h.order.update (read := by simp [stopScrub_scrub]),
    h.phases.update (read := by simp [stopScrub_scrub])⟩
  endStop _ hdue h := ⟨h.service.endStop hdue, h.order.update, h.phases.update⟩
  beginRestart s u h := ⟨serviceAgreement_kept.beginRestart s u h.service, h.order.beginRestart,
    (phaseLaw_relook _).update (s := s.beginRestart)⟩
  endRestart _ hdue h := ⟨h.service.endRestart hdue, h.order.update, h.phases.update⟩
  configure _ _ ht h := ⟨h.service.configure ht, h.order.configure ht, h.phases.configure ht⟩
  loadMap s home k i hs hi hk hf h := ⟨serviceAgreement_kept.loadMap s home k i hs hi hk hf h.service, h.order,
    .of_nil (h.service.halted hs).1⟩
  loadRetired s k hs hk h := ⟨serviceAgreement_kept.loadRetired s k hs hk h.service, h.order, h.phases.update⟩
  requestSpare s r hs h := ⟨serviceAgreement_kept.requestSpare s r hs h.service, h.order.update, h.phases.update⟩
  takeEvent s h := ⟨serviceAgreement_kept.takeEvent s h.service, h.order, h.phases.update⟩
  clearCounters s h := ⟨serviceAgreement_kept.clearCounters s h.service, h.order, h.phases.update⟩

end Sys2Proof.Machine

namespace Sys2Proof.Proofs

open Sys2Proof.Machine

/-- Settles O60: every action keeps acceptance order, and ends with the entries looking again or leaves what decides
their phases. -/
theorem phasesFollowTheHazardRuleAlways : Obligations.PhasesFollowTheHazardRuleAlways := by
  intro s s' ⟨hservice, horder, hphases⟩ hstep
  have hkept := ordered_kept.step s s' hstep ⟨(serviceAgreement_iff s).2 hservice, horder, hphases⟩
  exact ⟨hkept.order, hkept.phases⟩

end Sys2Proof.Proofs
end

section
/-! PROOFS. The ports (2.3) and the phases of the entries (2.6, 2.7): tests 1 to 3, acceptance, and the hazard rule as
the phase of an entry that is not issued (R22, R23, R24, R27, R29, R30, R34, R58). -/

-- One declaration after the other: side by side, the threads with their stacks outgrow the memory of the check.
set_option Elab.async false

namespace Sys2Proof.Machine

/-! ## What the other verdicts answer -/

theorem State.judge_clash (s : State) (r : Request) (h : ∃ e ∈ s.tt, e.port = r.port ∧ e.tag = r.tag) :
    s.judge r = .clash := by
  have hentry : s.entryOf r.port r.tag ≠ none := fun hnone => by
    obtain ⟨e, he, hname⟩ := h
    exact (s.entryOf_eq_none_iff _ _).1 hnone e he hname
  exact if_pos (Option.isSome_iff_ne_none.2 hentry)

/-- R23: outside RUNNING the policy decides. -/
theorem State.judge_of_not_running (s : State) (r : Request) (h : ∀ e ∈ s.tt, ¬ (e.port = r.port ∧ e.tag = r.tag))
    (hservice : s.service ≠ .running) : s.judge r = if s.cfg.haltedPolicy = .stall then .hold else .offline := by
  have hentry : s.entryOf r.port r.tag = none := (s.entryOf_eq_none_iff _ _).2 h
  cases hpolicy : s.cfg.haltedPolicy <;> simp [State.judge, hentry, hservice, hpolicy]

theorem State.judge_malformed (s : State) (r : Request) (h : PassesToForm s r) (hform : malformed r = true) :
    s.judge r = .form := by
  rw [s.judge_of_passesToForm r h, if_pos hform]

/-- R27: a request that passes tests 1 to 5. -/
theorem State.judge_accepted (s : State) (r : Request) (h : PassesToRange s r) (hline : lineIndex r < s.visibleLines)
    (hbytes : isEmptyWrite r = false) : s.judge r = .accept := by
  rw [s.judge_of_passesToRange r h, if_neg (Nat.not_le.2 hline), hbytes]
  rfl

theorem State.present_clash (s : State) (r : Request) (hheld : s.heldAt r.port = none) (hj : s.judge r = .clash) :
    s.present r = s.offer { kind := .tagClash, origin := portOrigin r.port, tag := some r.tag } := by
  simp only [State.present, hj, s.setHeld_none_of_unheld r.port hheld]

theorem State.present_hold (s : State) (r : Request) (hj : s.judge r = .hold) :
    s.present r = s.setHeld r.port (some r) := by simp only [State.present, hj]

theorem State.present_offline (s : State) (r : Request) (hheld : s.heldAt r.port = none) (hj : s.judge r = .offline) :
    s.present r = s.respond r.port ⟨r.tag, .offline, []⟩ := by
  simp only [State.present, hj, s.setHeld_none_of_unheld r.port hheld]

theorem State.present_form (s : State) (r : Request) (hheld : s.heldAt r.port = none) (hj : s.judge r = .form) :
    s.present r = (s.respond r.port ⟨r.tag, .errForm, []⟩).offer
      { kind := .form, origin := portOrigin r.port, tag := some r.tag } := by
  simp only [State.present, hj, s.setHeld_none_of_unheld r.port hheld]

theorem State.present_accept (s : State) (r : Request) (hheld : s.heldAt r.port = none) (hj : s.judge r = .accept) :
    s.present r = s.accept r := by
  simp only [State.present, hj, s.setHeld_none_of_unheld r.port hheld]

/-! ## The phase of an entry (R30, R58) -/

theorem Entry.isIssued_iff (e : Entry) : e.isIssued = true ↔ e.phase = .issued ∨ e.phase = .issuedWrite := by
  simp [Entry.isIssued]

theorem phaseNow_issued (s : State) (e : Entry) (h : e.isIssued = true) : s.phaseNow e = e.phase := if_pos h

theorem phaseNow_held (s : State) (e : Entry) (h : e.isIssued = false) (hheld : HeldByHazard s e) :
    s.phaseNow e = .waiting := by
  rw [State.phaseNow, h, (held_iff_heldByHazard s e).2 hheld]
  rfl

theorem phaseNow_unheld (s : State) (e : Entry) (h : e.isIssued = false) (hheld : ¬ HeldByHazard s e) :
    s.phaseNow e = if e.readResult = none then .ready else .writeReady := by
  have hfalse : s.held e = false := Bool.eq_false_iff.2 fun ht => hheld ((held_iff_heldByHazard s e).1 ht)
  rw [State.phaseNow, h, hfalse]
  cases e.readResult <;> rfl

end Sys2Proof.Machine

namespace Sys2Proof.Proofs

open Sys2Proof.Machine

/-- Settles O8: the verdict is `clash`, or by the policy `hold` or `offline`; behind a held request there is none. -/
theorem tagClashAndPolicyTestsComeFirst : Obligations.TagClashAndPolicyTestsComeFirst := by
  refine ⟨fun s r hout hheld hclash => ?_, fun s r hout hheld htags hservice => ?_, fun s r hheld => ?_⟩
  · rw [exec_presentedRequest_unheld s r hout hheld, s.quiet.present_clash r (by simpa using hheld)]
    simpa using s.judge_clash r hclash
  · have hj : s.quiet.judge r = if s.cfg.haltedPolicy = .stall then .hold else .offline := by
      simpa using s.judge_of_not_running r htags hservice
    rw [exec_presentedRequest_unheld s r hout hheld]
    by_cases hpolicy : s.cfg.haltedPolicy = .stall
    · rw [if_pos hpolicy] at hj ⊢
      rw [s.quiet.present_hold r hj]
    · rw [if_neg hpolicy] at hj ⊢
      rw [s.quiet.present_offline r (by simpa using hheld) hj]
  · have harm : exec (.presentedRequest r) s = execPresentedRequest r s := rfl
    obtain ⟨x, hx⟩ := Option.ne_none_iff_exists'.1 hheld
    simp only [harm, execPresentedRequest, hx]

/-- Settles O9: tests 1 and 2 pass, and the length or the last byte makes the request malformed. -/
theorem malformedRequestIsAnsweredErrForm : Obligations.MalformedRequestIsAnsweredErrForm := by
  intro s r hpass hbad
  have hform : malformed r = true := by
    by_contra h
    have hwell := (malformed_eq_false_iff r).1 (Bool.eq_false_iff.2 h)
    omega
  have hj := s.judge_malformed r hpass hform
  obtain ⟨hout, hheld, -⟩ := hpass
  rw [exec_presentedRequest_unheld s r hout hheld, s.quiet.present_form r (by simpa using hheld) (by simpa using hj)]

/-- Settles O12: the verdict is `accept`, and the entry is `newEntry` with the phase of the hazard rule. -/
theorem acceptedRequestBecomesAnEntry : Obligations.AcceptedRequestBecomesAnEntry := by
  intro s r hpass hline hbytes
  have hwrite : isEmptyWrite r = false := by
    cases hop : r.op with
    | read => simp [isEmptyWrite, hop]
    | write bytes =>
      obtain ⟨b, hb, hlt⟩ := hbytes bytes hop
      refine Bool.eq_false_iff.2 fun hempty => ?_
      exact absurd ((isEmptyWrite_iff r bytes hop).1 hempty b hb) (Nat.not_le.2 hlt)
  have hj := s.judge_accepted r hpass hline hwrite
  obtain ⟨⟨hout, hheld, -⟩, -⟩ := hpass
  have hstep : exec (.presentedRequest r) s = .next (s.quiet.accept r) := by
    rw [exec_presentedRequest_unheld s r hout hheld, s.quiet.present_accept r (by simpa using hheld) (by simpa using hj)]
  refine ⟨{ newEntry r s.nextPosition with phase := s.phaseNow (newEntry r s.nextPosition) }, hstep,
    rfl, rfl, rfl, rfl, rfl, rfl, rfl, rfl, rfl, fun hop => ?_, fun bytes hop => ?_, fun hhazard => ?_, fun hhazard => ?_⟩
  · simp [newEntry, entryOp, hop]
  · simp [newEntry, entryOp, hop, enabledBytes]
  · exact phaseNow_held s (newEntry r s.nextPosition) rfl hhazard
  · exact phaseNow_unheld s (newEntry r s.nextPosition) rfl hhazard

/-- Settles O13: the three equations of `phaseNow`. -/
theorem unissuedPhaseFollowsTheHazardRule : Obligations.UnissuedPhaseFollowsTheHazardRule := by
  intro s e
  refine ⟨e.isIssued_iff, fun h => phaseNow_issued s e (e.isIssued_iff.2 h), fun h₁ h₂ => ?_⟩
  have hissued : e.isIssued = false := Bool.eq_false_iff.2 fun h => (e.isIssued_iff.1 h).elim h₁ h₂
  exact ⟨phaseNow_held s e hissued, phaseNow_unheld s e hissued⟩

end Sys2Proof.Proofs
end

section
/-! PROOFS. The check code and its classes (1.3, 1.4): chunks written with data and chunks written as poison, as stored
and after errors. -/

-- One declaration after the other: side by side, the threads with their stacks outgrow the memory of the check.
set_option Elab.async false

namespace Sys2Proof.Machine

/-- R9: the column of one of the 72 bits. -/
def errorColumn (i : Fin 72) : Byte := errorColumns[i.val]'(by rw [errorColumns_length]; exact i.isLt)

theorem errorColumn_ne_zero (i : Fin 72) : errorColumn i ≠ 0 :=
  fun h => Config.code.lawful.nonzero (h ▸ errorColumn_mem i)

theorem errorColumn_injective (i j : Fin 72) (h : errorColumn i = errorColumn j) : i = j := by
  have hindex := (List.Nodup.getElem_inj_iff Config.code.lawful.distinct).1 h
  exact Fin.ext hindex

/-- R7 (2), R9: one bit error is corrected, and the bit named by the syndrome is inverted back. -/
theorem classify_of_column (c : StoredChunk) (i : Fin 72) (h : syndrome c = errorColumn i) :
    classify c = .corrected (if i.val < 64 then c.data ^^^ BitVec.twoPow 64 i.val else c.data) := by
  unfold classify
  rw [if_neg (h ▸ errorColumn_ne_zero i), h]
  have hbit : errorBit (errorColumn i) = some i.val := errorBit_column i
  rw [hbit]

/-- R9: a syndrome that is not zero and belongs to no bit. -/
theorem classify_of_no_column (c : StoredChunk) (hzero : syndrome c ≠ 0) (h : syndrome c ∉ errorColumns) :
    classify c = if syndrome c = Config.code.poison then .poisoned else .uncorrectable := by
  unfold classify
  rw [if_neg hzero, errorBit_none _ h]

theorem classify_of_zero (c : StoredChunk) (h : syndrome c = 0) : classify c = .clean c.data := if_pos h

theorem syndrome_flipBit (c : StoredChunk) (i : Fin 72) : syndrome (flipBit c i) = syndrome c ^^^ errorColumn i :=
  syndrome_flip c i

/-- Inverting the bit again gives the data back. -/
theorem flipBit_data (c : StoredChunk) (i : Fin 72) :
    (if i.val < 64 then (flipBit c i).data ^^^ BitVec.twoPow 64 i.val else (flipBit c i).data) = c.data := by
  unfold flipBit
  split_ifs
  · simp
  · rfl

/-- R7 (3): two columns do not form a column. -/
theorem columns_xor (i j : Fin 72) (h : i ≠ j) : errorColumn i ^^^ errorColumn j ∉ errorColumns :=
  Config.code.lawful.double _ (errorColumn_mem i) _ (errorColumn_mem j) fun heq => h (errorColumn_injective i j heq)

theorem columns_xor_ne_zero (i j : Fin 72) (h : i ≠ j) : errorColumn i ^^^ errorColumn j ≠ 0 :=
  fun heq => h (errorColumn_injective i j (BitVec.xor_eq_zero_iff.1 heq))

theorem syndrome_one_error (d : ChunkData) (i : Fin 72) :
    syndrome (flipBit (ChunkContent.data d).stored i) = errorColumn i := by
  simp [syndrome_flipBit]

theorem syndrome_two_errors (d : ChunkData) (i j : Fin 72) :
    syndrome (flipBit (flipBit (ChunkContent.data d).stored i) j) = errorColumn i ^^^ errorColumn j := by
  rw [syndrome_flipBit, syndrome_one_error]

theorem poison_ne_column (i : Fin 72) : errorColumn i ≠ Config.code.poison :=
  fun h => Config.code.lawful.poisonApart (h ▸ errorColumn_mem i)

theorem classify_poison : classify ChunkContent.poison.stored = .poisoned := by
  have hsyndrome : syndrome ChunkContent.poison.stored = Config.code.poison := syndrome_stored_poison
  rw [classify_of_no_column _ (by rw [hsyndrome]; exact Config.code.lawful.poisonNonzero)
    (by rw [hsyndrome]; exact Config.code.lawful.poisonApart), if_pos hsyndrome]

/-- R10: a poisoned chunk with one bit error. -/
theorem classify_poison_flipped (i : Fin 72) : classify (flipBit ChunkContent.poison.stored i) = .uncorrectable := by
  have hsyndrome : syndrome (flipBit ChunkContent.poison.stored i) = Config.code.poison ^^^ errorColumn i := by
    rw [syndrome_flipBit, syndrome_stored_poison]
  have hapart : Config.code.poison ^^^ errorColumn i ∉ errorColumns :=
    Config.code.lawful.poisonHit _ (errorColumn_mem i)
  have hzero : Config.code.poison ^^^ errorColumn i ≠ 0 :=
    fun h => poison_ne_column i (BitVec.xor_eq_zero_iff.1 h).symm
  have hpoison : Config.code.poison ^^^ errorColumn i ≠ Config.code.poison :=
    fun h => errorColumn_ne_zero i (by simpa using h)
  rw [classify_of_no_column _ (by rwa [hsyndrome]) (by rwa [hsyndrome]), if_neg (by rwa [hsyndrome])]

end Sys2Proof.Machine

namespace Sys2Proof.Proofs

open Sys2Proof.Machine

/-- Settles O5: by the syndrome of each case. -/
theorem checkCodeGuarantees : Obligations.CheckCodeGuarantees := by
  refine ⟨fun d => ?_, fun d i => ?_, fun d i j hij => ?_, classify_poison, Config.code.lawful.poisonNonzero,
    fun d i => ?_, fun stored c n => ⟨perChunk_getElem _ c, rfl⟩⟩
  · exact classify_of_zero _ (syndrome_stored_data d)
  · rw [classify_of_column _ i (syndrome_one_error d i), flipBit_data]
    rfl
  · have hsyndrome := syndrome_two_errors d i j
    refine classify_of_no_column _ ?_ ?_
    · rw [hsyndrome]
      exact columns_xor_ne_zero i j hij
    · rw [hsyndrome]
      exact columns_xor i j hij
  · rw [syndrome_one_error]
    exact poison_ne_column i

/-- Settles O6: poison has the poison syndrome, and one bit error takes it to no class but UNCORRECTABLE. -/
theorem poisonIsStoredAndDecaysToUncorrectable : Obligations.PoisonIsStoredAndDecaysToUncorrectable :=
  ⟨rfl, syndrome_stored_poison, classify_poison_flipped⟩

end Sys2Proof.Proofs
end

section
/-! PROOFS. Chunks, enabled bytes and contents (1.2, R3, R51, R56, R57), and what an entry asks for (R42 to R58). -/

-- One declaration after the other: side by side, the threads with their stacks outgrow the memory of the check.
set_option Elab.async false

namespace Sys2Proof.Machine

/-! ## Requested, touched and covered chunks (R3) -/

theorem mem_requestedChunks (offset length : Nat) (c : ChunkNumber) :
    c ∈ requestedChunks offset length ↔ offset < 8 * c.val + 8 ∧ 8 * c.val < offset + length := by
  simp [requestedChunks, mem_chunkNumbers]

theorem newByte_isSome_iff (offset : Nat) (bytes : List (Nat × Byte)) (b : Nat) :
    (newByte offset bytes b).isSome = true ↔ ∃ x ∈ bytes, offset + x.1 = b := by
  simp [newByte]

theorem mem_touchedChunks (offset : Nat) (bytes : List (Nat × Byte)) (c : ChunkNumber) :
    c ∈ touchedChunks offset bytes ↔ touched offset bytes c = true := by
  simp [touchedChunks, mem_chunkNumbers]

theorem touched_iff (offset : Nat) (bytes : List (Nat × Byte)) (c : ChunkNumber) :
    touched offset bytes c = true ↔ ∃ x ∈ bytes, (offset + x.1) / 8 = c.val := by
  simp only [touched, List.any_eq_true, List.mem_range, newByte_isSome_iff]
  constructor
  · rintro ⟨p, hp, x, hx, heq⟩
    exact ⟨x, hx, by omega⟩
  · rintro ⟨x, hx, heq⟩
    exact ⟨(offset + x.1) % 8, by omega, x, hx, by omega⟩

theorem fullyCovered_iff (offset : Nat) (bytes : List (Nat × Byte)) (c : ChunkNumber) :
    fullyCovered offset bytes c = true ↔ ∀ p < 8, ∃ x ∈ bytes, offset + x.1 = 8 * c.val + p := by
  simp only [fullyCovered, List.all_eq_true, List.mem_range, newByte_isSome_iff]

theorem writeClass_full_iff (offset : Nat) (bytes : List (Nat × Byte)) :
    writeClass offset bytes = .full ↔
      ∀ c : ChunkNumber, c ∈ touchedChunks offset bytes → fullyCovered offset bytes c = true := by
  have hnil : writeClass offset bytes = .full ↔ partlyCoveredChunks offset bytes = [] := by
    unfold writeClass
    split_ifs with h <;> simp [h]
  simp only [hnil, partlyCoveredChunks, List.filter_eq_nil_iff, partlyCovered, mem_chunkNumbers, true_implies,
    mem_touchedChunks]
  refine forall_congr' fun c => ?_
  cases touched offset bytes c <;> cases fullyCovered offset bytes c <;> simp

/-! ## Bytes of a chunk (R1, R57) -/

/-- R1: the byte at a position of the chunk put together of its bytes. -/
theorem byteAt_chunkOfBytes (f : Nat → Byte) (p : Nat) (hp : p < 8) : byteAt (chunkOfBytes f) p = f p := by
  apply BitVec.eq_of_getLsbD_eq
  intro i hi
  unfold byteAt chunkOfBytes
  interval_cases p <;> simp [hi] <;> grind

/-- R3: a position named once gives its byte. -/
theorem newByte_eq_some_iff (offset : Nat) (bytes : List (Nat × Byte)) (h : (bytes.map (·.1)).Nodup) (b : Nat)
    (v : Byte) : newByte offset bytes b = some v ↔ ∃ x ∈ bytes, offset + x.1 = b ∧ x.2 = v := by
  constructor
  · intro hv
    obtain ⟨x, hx, rfl⟩ := Option.map_eq_some_iff.1 hv
    exact ⟨x, List.mem_of_find?_eq_some hx, by simpa using List.find?_some hx, rfl⟩
  · rintro ⟨x, hx, heq, rfl⟩
    obtain ⟨y, hy⟩ := Option.isSome_iff_exists.1 ((newByte_isSome_iff offset bytes b).2 ⟨x, hx, heq⟩)
    obtain ⟨z, hz, rfl⟩ := Option.map_eq_some_iff.1 hy
    have hzb : offset + z.1 = b := by simpa using List.find?_some hz
    have hsame : z = x := List.inj_on_of_nodup_map h (List.mem_of_find?_eq_some hz) hx (by omega)
    rw [hy, hsame]

theorem newByte_eq_none_iff (offset : Nat) (bytes : List (Nat × Byte)) (b : Nat) :
    newByte offset bytes b = none ↔ ∀ x ∈ bytes, offset + x.1 ≠ b := by
  simp [newByte]

theorem byteAt_mergeChunk (offset : Nat) (bytes : List (Nat × Byte)) (c : ChunkNumber) (old : ChunkData) (p : Nat)
    (hp : p < 8) :
    byteAt (mergeChunk offset bytes c old) p = (newByte offset bytes (8 * c.val + p)).getD (byteAt old p) :=
  byteAt_chunkOfBytes _ p hp

/-! ## Contents of a write phase (R56) -/

theorem partialChunk_touched (offset : Nat) (bytes : List (Nat × Byte)) (r : LineResult) (c : ChunkNumber)
    (h : c ∈ touchedChunks offset bytes) :
    partialChunk offset bytes r c = some (.data (mergeChunk offset bytes c (r[c].supplied.getD 0))) :=
  if_pos ((mem_touchedChunks offset bytes c).1 h)

theorem partialChunk_untouched (offset : Nat) (bytes : List (Nat × Byte)) (r : LineResult) (c : ChunkNumber)
    (h : c ∉ touchedChunks offset bytes) : partialChunk offset bytes r c = repairContent r[c] :=
  if_neg fun ht => h ((mem_touchedChunks offset bytes c).2 ht)

/-- A list of chunks with their contents is the graph of the content's function. -/
theorem mem_chunkContents (f : ChunkNumber → Option ChunkContent) (c : ChunkNumber) (x : ChunkContent) :
    (c, x) ∈ chunkNumbers.filterMap (fun c => (f c).map fun x => (c, x)) ↔ f c = some x := by
  simp [mem_chunkNumbers]

/-! ## What an entry asks for (R42, R44, R45, R51, R53, R58) -/

theorem entryCandidate_ready (s : State) (e : Entry) (l : Location) (hl : s.resolve e.home = some l)
    (h : e.phase = .ready) :
    s.entryCandidate e =
      some ⟨.port, .entry e.port e.tag, (readyOperation e).1, l, (readyOperation e).2⟩ := by
  simp only [State.entryCandidate, hl, h]

theorem entryCandidate_writeReady (s : State) (e : Entry) (l : Location) (hl : s.resolve e.home = some l)
    (h : e.phase = .writeReady) :
    s.entryCandidate e = some ⟨.writeBack, .entry e.port e.tag, .chunkWrite, l, writePhaseContent e⟩ := by
  simp only [State.entryCandidate, hl, h]

theorem entryCandidate_other (s : State) (e : Entry) (h : e.phase ≠ .ready) (h' : e.phase ≠ .writeReady) :
    s.entryCandidate e = none := by
  unfold State.entryCandidate
  cases s.resolve e.home with
  | none => rfl
  | some l => cases hphase : e.phase <;> simp_all

end Sys2Proof.Machine

namespace Sys2Proof.Proofs

open Sys2Proof.Machine

/-- Settles O7: each term is a condition on byte offsets. -/
theorem chunkTermsFollowTheBytes : Obligations.ChunkTermsFollowTheBytes := by
  refine ⟨fun offset length c hlength => ?_, fun offset bytes c => ⟨?_, fullyCovered_iff offset bytes c⟩,
    writeClass_full_iff⟩
  · rw [mem_requestedChunks]
    constructor
    · intro h
      exact ⟨max offset (8 * c.val), by omega, by omega, by omega⟩
    · rintro ⟨b, hlow, hhigh, hb⟩
      omega
  · rw [mem_touchedChunks, touched_iff]

/-- Settles O14: by the phase, and for a READY entry by its kind. -/
theorem entriesAskByKindAndPhase : Obligations.EntriesAskByKindAndPhase := by
  intro s e l hl
  refine ⟨fun hphase hop => ?_, fun bytes hphase hop => ?_, fun bytes hphase hop => ?_,
    fun cls bytes r hphase hop hr => ?_, entryCandidate_other s e⟩
  · simp only [entryCandidate_ready s e l hl hphase, readyOperation, hop]
  · simp only [entryCandidate_ready s e l hl hphase, readyOperation, hop]
  · simp only [entryCandidate_ready s e l hl hphase, readyOperation, hop, fullContent]
  · simp only [entryCandidate_writeReady s e l hl hphase, writePhaseContent, hop, hr]

/-- Settles O15: new bytes by their positions, old bytes elsewhere; chunks not touched by their class. -/
theorem writePhaseContentFollowsTheClasses : Obligations.WritePhaseContentFollowsTheClasses := by
  refine ⟨fun offset bytes hnodup => ⟨newByte_eq_some_iff offset bytes hnodup, fun c old p hp => ⟨?_, ?_⟩⟩,
    fun d => ⟨rfl, rfl⟩, rfl, rfl, fun offset bytes r c => ⟨fun htouched => ?_, fun huntouched => ?_⟩,
    fun offset bytes r c x => mem_chunkContents _ c x⟩
  · intro x hx heq
    rw [byteAt_mergeChunk offset bytes c old p hp,
      (newByte_eq_some_iff offset bytes hnodup (8 * c.val + p) x.2).2 ⟨x, hx, heq, rfl⟩]
    rfl
  · intro hnone
    rw [byteAt_mergeChunk offset bytes c old p hp, (newByte_eq_none_iff offset bytes _).2 hnone]
    rfl
  · refine ⟨_, partialChunk_touched offset bytes r c htouched, fun p hp => ⟨fun v hv => ?_, fun hnone old hold => ?_⟩⟩
    · rw [byteAt_mergeChunk _ _ _ _ p hp, hv]
      rfl
    · rw [byteAt_mergeChunk _ _ _ _ p hp, hnone, hold]
      rfl
  · rw [partialChunk_untouched offset bytes r c huntouched]
    refine ⟨fun d hd => ?_, fun hp => ?_, fun d hd => ?_, fun hu => ?_⟩
    · rw [hd]; rfl
    · rw [hp]; rfl
    · rw [hd]; rfl
    · rw [hu]; rfl

end Sys2Proof.Proofs
end

section
/-! PROOFS. The commands of the management link by their codes and argument bytes (11.3, R189 tests 4 to 6, R194). -/

-- One declaration after the other: side by side, the threads with their stacks outgrow the memory of the check.
set_option Elab.async false

namespace Sys2Proof.Machine

/-! ## Codes and argument bytes (R194) -/

theorem byte_of_word (b₀ b₁ b₂ b₃ : Byte) (i : Nat) (hi : i < 8) :
    (word4 b₀ b₁ b₂ b₃).getLsbD (24 + i) = b₀.getLsbD i ∧ (word4 b₀ b₁ b₂ b₃).getLsbD (16 + i) = b₁.getLsbD i ∧
      (word4 b₀ b₁ b₂ b₃).getLsbD (8 + i) = b₂.getLsbD i ∧ (word4 b₀ b₁ b₂ b₃).getLsbD i = b₃.getLsbD i := by
  unfold word4
  simp only [BitVec.getLsbD_append]
  grind

theorem bytes4_word4 (a b c d : Byte) : bytes4 (word4 a b c d) = [a, b, c, d] := by
  have hbyte (k : Nat) (x : Byte) (hx : ∀ i < 8, (word4 a b c d).getLsbD (k + i) = x.getLsbD i) :
      (word4 a b c d).extractLsb' k 8 = x := by
    apply BitVec.eq_of_getLsbD_eq
    intro i hi
    rw [BitVec.getLsbD_extractLsb', decide_eq_true hi, Bool.true_and]
    exact hx i hi
  unfold bytes4
  rw [hbyte 24 a fun i hi => (byte_of_word a b c d i hi).1, hbyte 16 b fun i hi => (byte_of_word a b c d i hi).2.1,
    hbyte 8 c fun i hi => (byte_of_word a b c d i hi).2.2.1,
    hbyte 0 d fun i hi => by rw [Nat.zero_add]; exact (byte_of_word a b c d i hi).2.2.2]

/-- The codes of R194 with the number of their argument bytes. -/
def commandTable : List (Byte × Nat) :=
  [(0x01, 0), (0x02, 0), (0x10, 5), (0x11, 1), (0x20, 0), (0x21, 0), (0x22, 0), (0x30, 5), (0x31, 1), (0x32, 4),
   (0x38, 1), (0x39, 4), (0x3A, 1), (0x40, 1), (0x41, 1), (0x48, 0), (0x50, 0), (0x51, 0)]

theorem argumentLength_of_mem : ∀ x ∈ commandTable, argumentLength x.1 = some x.2 := by decide

theorem mem_of_argumentLength (code : Byte) (n : Nat) (h : argumentLength code = some n) : (code, n) ∈ commandTable := by
  have hcode : code = BitVec.ofNat 8 code.toNat := by simp
  unfold argumentLength at h
  split at h
  case h_19 => cases h
  all_goals
    rename_i hk
    rw [hk] at hcode
    subst hcode
    cases h
    decide

theorem mem_commandTable (c : LinkCommand) : (c.code, c.args.length) ∈ commandTable := by
  cases c <;> simp [commandTable, LinkCommand.code, LinkCommand.args, bytes4]

theorem code_ne_result (x : Byte × Nat) (hx : x ∈ commandTable) : x.1 ≠ 0x7E := by
  revert x
  decide

/-- R189 tests 5 and 6, for a code of the table: the command of the code and the arguments, when they are as many. -/
structure Decodes (code : Byte) (n : Nat) : Prop where
  command (args : List Byte) : args.length = n → ∃ c, decodeCommand code args = some c ∧ c.code = code ∧ c.args = args
  wrong (args : List Byte) : args.length ≠ n → decodeCommand code args = none

theorem decodes_zero (code : Byte) (c : LinkCommand) (hc : decodeCommand code [] = some c) (hcode : c.code = code)
    (hargs : c.args = []) (hwrong : ∀ a l, decodeCommand code (a :: l) = none) : Decodes code 0 where
  command args h := by
    obtain rfl := List.length_eq_zero_iff.1 h
    exact ⟨c, hc, hcode, hargs⟩
  wrong args h := by
    cases args with
    | nil => exact absurd rfl h
    | cons a l => exact hwrong a l

theorem decodes_one (code : Byte) (c : Byte → LinkCommand) (hc : ∀ a, decodeCommand code [a] = some (c a))
    (hcode : ∀ a, (c a).code = code) (hargs : ∀ a, (c a).args = [a]) (hnil : decodeCommand code [] = none)
    (hwrong : ∀ a b l, decodeCommand code (a :: b :: l) = none) : Decodes code 1 where
  command args h := by
    obtain ⟨a, rfl⟩ := List.length_eq_one_iff.1 h
    exact ⟨c a, hc a, hcode a, hargs a⟩
  wrong args h := by
    match args, h with
    | [], _ => exact hnil
    | [a], h => exact absurd rfl h
    | a :: b :: l, _ => exact hwrong a b l

theorem decodes_four (code : Byte) (c : BitVec 32 → LinkCommand)
    (hc : ∀ x y z w, decodeCommand code [x, y, z, w] = some (c (word4 x y z w))) (hcode : ∀ v, (c v).code = code)
    (hargs : ∀ v, (c v).args = bytes4 v) (h₀ : decodeCommand code [] = none) (h₁ : ∀ x, decodeCommand code [x] = none)
    (h₂ : ∀ x y, decodeCommand code [x, y] = none) (h₃ : ∀ x y z, decodeCommand code [x, y, z] = none)
    (h₅ : ∀ x y z w v l, decodeCommand code (x :: y :: z :: w :: v :: l) = none) : Decodes code 4 where
  command args h := by
    match args, h with
    | [x, y, z, w], _ => exact ⟨_, hc x y z w, hcode _, (hargs _).trans (bytes4_word4 x y z w)⟩
  wrong args h := by
    match args, h with
    | [], _ => exact h₀
    | [x], _ => exact h₁ x
    | [x, y], _ => exact h₂ x y
    | [x, y, z], _ => exact h₃ x y z
    | [x, y, z, w], h => exact absurd rfl h
    | x :: y :: z :: w :: v :: l, _ => exact h₅ x y z w v l

theorem decodes_five (code : Byte) (c : Byte → Byte → Byte → Byte → Byte → LinkCommand)
    (hc : ∀ x y z w v, decodeCommand code [x, y, z, w, v] = some (c x y z w v))
    (hcode : ∀ x y z w v, (c x y z w v).code = code) (hargs : ∀ x y z w v, (c x y z w v).args = [x, y, z, w, v])
    (h₀ : decodeCommand code [] = none) (h₁ : ∀ x, decodeCommand code [x] = none)
    (h₂ : ∀ x y, decodeCommand code [x, y] = none) (h₃ : ∀ x y z, decodeCommand code [x, y, z] = none)
    (h₄ : ∀ x y z w, decodeCommand code [x, y, z, w] = none)
    (h₆ : ∀ x y z w v u l, decodeCommand code (x :: y :: z :: w :: v :: u :: l) = none) : Decodes code 5 where
  command args h := by
    match args, h with
    | [x, y, z, w, v], _ => exact ⟨_, hc x y z w v, hcode .., hargs ..⟩
  wrong args h := by
    match args, h with
    | [], _ => exact h₀
    | [x], _ => exact h₁ x
    | [x, y], _ => exact h₂ x y
    | [x, y, z], _ => exact h₃ x y z
    | [x, y, z, w], _ => exact h₄ x y z w
    | [x, y, z, w, v], h => exact absurd rfl h
    | x :: y :: z :: w :: v :: u :: l, _ => exact h₆ x y z w v u l

theorem decodes (x : Byte × Nat) (hx : x ∈ commandTable) : Decodes x.1 x.2 := by
  have hbytes (a b c d e : Byte) : (LinkCommand.configure a (word4 b c d e)).args = [a, b, c, d, e] := by
    simp [LinkCommand.args, bytes4_word4]
  have hmap (a b c d e : Byte) : (LinkCommand.loadMap (word4 a b c d) e).args = [a, b, c, d, e] := by
    simp [LinkCommand.args, bytes4_word4]
  revert x
  simp only [commandTable, List.forall_mem_cons, List.not_mem_nil, false_implies, implies_true, and_true]
  exact ⟨decodes_zero _ .readIdentity rfl rfl rfl fun _ _ => rfl, decodes_zero _ .readState rfl rfl rfl fun _ _ => rfl,
    decodes_five _ (fun a b c d e => .configure a (word4 b c d e)) (fun _ _ _ _ _ => rfl) (fun _ _ _ _ _ => rfl) hbytes
      rfl (fun _ => rfl) (fun _ _ => rfl) (fun _ _ _ => rfl) (fun _ _ _ _ => rfl) fun _ _ _ _ _ _ _ => rfl,
    decodes_one _ .readConfig (fun _ => rfl) (fun _ => rfl) (fun _ => rfl) rfl fun _ _ _ => rfl,
    decodes_zero _ .start rfl rfl rfl fun _ _ => rfl, decodes_zero _ .stop rfl rfl rfl fun _ _ => rfl,
    decodes_zero _ .restart rfl rfl rfl fun _ _ => rfl,
    decodes_five _ (fun a b c d e => .loadMap (word4 a b c d) e) (fun _ _ _ _ _ => rfl) (fun _ _ _ _ _ => rfl) hmap
      rfl (fun _ => rfl) (fun _ _ => rfl) (fun _ _ _ => rfl) (fun _ _ _ _ => rfl) fun _ _ _ _ _ _ _ => rfl,
    decodes_one _ .loadRetired (fun _ => rfl) (fun _ => rfl) (fun _ => rfl) rfl fun _ _ _ => rfl,
    decodes_four _ .requestSpare (fun _ _ _ _ => rfl) (fun _ => rfl) (fun _ => rfl) rfl (fun _ => rfl) (fun _ _ => rfl)
      (fun _ _ _ => rfl) fun _ _ _ _ _ _ => rfl,
    decodes_one _ .readMapEntry (fun _ => rfl) (fun _ => rfl) (fun _ => rfl) rfl fun _ _ _ => rfl,
    decodes_four _ .findMap (fun _ _ _ _ => rfl) (fun _ => rfl) (fun _ => rfl) rfl (fun _ => rfl) (fun _ _ => rfl)
      (fun _ _ _ => rfl) fun _ _ _ _ _ _ => rfl,
    decodes_one _ .readSpare (fun _ => rfl) (fun _ => rfl) (fun _ => rfl) rfl fun _ _ _ => rfl,
    decodes_one _ .readSuspect (fun _ => rfl) (fun _ => rfl) (fun _ => rfl) rfl fun _ _ _ => rfl,
    decodes_one _ .readSparingQueue (fun _ => rfl) (fun _ => rfl) (fun _ => rfl) rfl fun _ _ _ => rfl,
    decodes_zero _ .takeEvent rfl rfl rfl fun _ _ => rfl, decodes_zero _ .readCounters rfl rfl rfl fun _ _ => rfl,
    decodes_zero _ .clearCounters rfl rfl rfl fun _ _ => rfl⟩

end Sys2Proof.Machine
end

section
/-! PROOFS. The frames of the management link (11.1, R185 to R194): the CRC over a whole frame, what the bytes of a frame
are, and which frames are taken. -/

-- One declaration after the other: side by side, the threads with their stacks outgrow the memory of the check.
set_option Elab.async false

namespace Sys2Proof.Machine

/-! ## What the bytes of a frame are (R186, R189) -/

/-- The bytes of a COMMAND frame of a code and its arguments, with the CRC byte of R187. -/
def frameOf (code : Byte) (args : List Byte) : List Byte :=
  code :: BitVec.ofNat 8 args.length :: (args ++ [crc8 (code :: BitVec.ofNat 8 args.length :: args)])

theorem LinkCommand.frame_eq (c : LinkCommand) : c.frame = frameOf c.code c.args := rfl

theorem crc8_frameOf (code : Byte) (args : List Byte) : crc8 (frameOf code args) = 0 :=
  crc8_residue (code :: BitVec.ofNat 8 args.length :: args)

/-- R186: a frame with a code, the number of its arguments (12 at most), as many arguments and its CRC is well formed. -/
theorem wellFormedRest_args (code n : Byte) (args : List Byte) (hn : args.length = n.toNat) (h : n.toNat ≤ 12) :
    wellFormedRest code n (args ++ [crc8 (code :: n :: args)]) = true := by
  simp [wellFormedRest, hn, h]

/-- R186, R187: and nothing else is. -/
theorem wellFormedRest_iff (code n : Byte) (rest : List Byte) :
    wellFormedRest code n rest = true ↔ n.toNat ≤ 12 ∧ rest.length = n.toNat + 1 ∧
      rest.getLast? = some (crc8 (code :: n :: rest.dropLast)) := by
  simp [wellFormedRest, and_assoc]

theorem append_getLast (l : List Byte) (b : Byte) (h : l.getLast? = some b) : l = l.dropLast ++ [b] := by
  rcases List.eq_nil_or_concat l with rfl | ⟨init, x, rfl⟩
  · cases h
  · simp at h
    simp [h]

theorem crc8_of_wellFormedRest (code n : Byte) (rest : List Byte) (h : wellFormedRest code n rest = true) :
    crc8 (code :: n :: rest) = 0 := by
  obtain ⟨-, -, hlast⟩ := (wellFormedRest_iff code n rest).1 h
  rw [append_getLast rest _ hlast]
  exact crc8_residue (code :: n :: rest.dropLast)

/-- R189 tests 3 to 6 for a well-formed frame. -/
theorem frameKind_args (code n : Byte) (args : List Byte) (hcode : code ≠ 0x7E) (hn : args.length = n.toNat)
    (h : n.toNat ≤ 12) :
    frameKind (code :: n :: (args ++ [crc8 (code :: n :: args)])) =
      match argumentLength code with
      | none => .unknownCode code
      | some _ =>
        match decodeCommand code args with
        | some c => .command c
        | none => .wrongLength code := by
  simp only [frameKind, hcode, if_false, wellFormedRest_args code n args hn h, if_true, List.dropLast_concat] <;> rfl

theorem frameKind_unknown (code n : Byte) (args : List Byte) (hcode : code ≠ 0x7E) (hn : args.length = n.toNat)
    (h : n.toNat ≤ 12) (hnone : ∀ x ∈ commandTable, x.1 ≠ code) :
    frameKind (code :: n :: (args ++ [crc8 (code :: n :: args)])) = .unknownCode code := by
  have hlength : argumentLength code = none := by
    cases hx : argumentLength code with
    | none => rfl
    | some m => exact absurd rfl (hnone _ (mem_of_argumentLength code m hx))
  rw [frameKind_args code n args hcode hn h, hlength]

theorem frameKind_wrongLength (x : Byte × Nat) (hx : x ∈ commandTable) (n : Byte) (args : List Byte)
    (hn : args.length = n.toNat) (h : n.toNat ≤ 12) (hne : args.length ≠ x.2) :
    frameKind (x.1 :: n :: (args ++ [crc8 (x.1 :: n :: args)])) = .wrongLength x.1 := by
  rw [frameKind_args x.1 n args (code_ne_result x hx) hn h, argumentLength_of_mem x hx, (decodes x hx).wrong args hne]

theorem frameKind_command (x : Byte × Nat) (hx : x ∈ commandTable) (n : Byte) (args : List Byte)
    (hn : args.length = n.toNat) (h : n.toNat ≤ 12) (heq : args.length = x.2) :
    ∃ c : LinkCommand, frameKind (x.1 :: n :: (args ++ [crc8 (x.1 :: n :: args)])) = .command c ∧
      decodeCommand x.1 args = some c ∧ c.code = x.1 ∧ c.args = args := by
  obtain ⟨c, hc, hcode, hargs⟩ := (decodes x hx).command args heq
  refine ⟨c, ?_, hc, hcode, hargs⟩
  rw [frameKind_args x.1 n args (code_ne_result x hx) hn h, argumentLength_of_mem x hx, hc]

theorem decodeCommand_frame (c : LinkCommand) : decodeCommand c.code c.args = some c := by
  cases c with
  | configure item v => exact congrArg (fun v => some (LinkCommand.configure item v)) (word4_bytes4 v)
  | loadMap v k => exact congrArg (fun v => some (LinkCommand.loadMap v k)) (word4_bytes4 v)
  | requestSpare v => exact congrArg (fun v => some (LinkCommand.requestSpare v)) (word4_bytes4 v)
  | findMap v => exact congrArg (fun v => some (LinkCommand.findMap v)) (word4_bytes4 v)
  | _ => rfl

theorem args_length_le (c : LinkCommand) : c.args.length ≤ 5 := by
  cases c <;> simp [LinkCommand.args, bytes4]

theorem frameKind_frame (c : LinkCommand) : frameKind c.frame = .command c := by
  have hlength := args_length_le c
  have hn : c.args.length = (BitVec.ofNat 8 c.args.length).toNat := by
    rw [BitVec.toNat_ofNat]
    omega
  obtain ⟨d, hd, hdecode, -, -⟩ := frameKind_command _ (mem_commandTable c) _ c.args hn (by omega) rfl
  rw [decodeCommand_frame c] at hdecode
  obtain rfl := Option.some.inj hdecode
  exact hd

/-- R194: a frame is the command's of its code and its arguments. -/
theorem command_of_frameKind (code : Byte) (args : List Byte) (c : LinkCommand)
    (h : frameKind (frameOf code args) = .command c) (hlength : args.length ≤ 12) : c.code = code ∧ c.args = args := by
  have hn : args.length = (BitVec.ofNat 8 args.length).toNat := by
    rw [BitVec.toNat_ofNat]
    omega
  have hcode : code ≠ 0x7E := by
    rintro rfl
    simp [frameKind, frameOf] at h
  unfold frameOf at h
  rw [frameKind_args code _ args hcode hn (by omega)] at h
  cases hx : argumentLength code with
  | none =>
    rw [hx] at h
    cases h
  | some m =>
    have hmem := mem_of_argumentLength code m hx
    by_cases hm : args.length = m
    · obtain ⟨d, hd, hdcode, hdargs⟩ := (decodes _ hmem).command args hm
      rw [hx, hd] at h
      obtain rfl := FrameKind.command.inj h
      exact ⟨hdcode, hdargs⟩
    · rw [hx, (decodes _ hmem).wrong args hm] at h
      cases h

theorem frameKind_illFormed (code n : Byte) (rest : List Byte) (hcode : code ≠ 0x7E)
    (h : wellFormedRest code n rest = false) : frameKind (code :: n :: rest) = .illFormed code :=
  (if_neg hcode).trans (if_neg (Bool.eq_false_iff.1 h))

/-! ## Taking a frame (R185, R189) -/

/-- R189: the frame of a command is the command. -/
theorem takeFrame_frame (c : LinkCommand) (s : State) : takeFrame c.frame s.quiet = takeCommand c s := by
  unfold takeFrame takeCommand
  rw [frameKind_frame]
  rfl

theorem takeFrame_taken (bytes : List Byte) (s : State) (h : TakesFrames s) :
    takeFrame bytes s =
      match frameKind bytes with
      | .silent => s.quiet
      | .result n => s.quiet.resultFrame n
      | k => settleFrame k (s.framed bytes.length) := by
  unfold takeFrame
  rw [s.frameEnds_taken _ _ h]
  rfl

/-- A frame that is neither silent nor a RESULT frame is settled as a COMMAND frame. -/
theorem takeFrame_settled (bytes : List Byte) (s : State) (h : TakesFrames s) (hsilent : frameKind bytes ≠ .silent)
    (hresult : ∀ n, frameKind bytes ≠ .result n) :
    takeFrame bytes s = settleFrame (frameKind bytes) (s.framed bytes.length) := by
  rw [takeFrame_taken bytes s h]
  split
  · exact absurd ‹_› hsilent
  · exact absurd ‹_› (hresult _)
  · rfl

end Sys2Proof.Machine

namespace Sys2Proof.Proofs

open Sys2Proof.Machine

/-- Settles O50: a frame and a reply end with the CRC of what is before it, and the residue is 0. -/
theorem crcOverAWholeFrameIsZero : Obligations.CrcOverAWholeFrameIsZero :=
  ⟨fun c => crc8_frameOf c.code c.args, crc8_of_wellFormedRest, fun l => crc8_residue l.replyBody, by decide +kernel, by decide +kernel,
    by decide +kernel, by decide +kernel⟩

/-- Settles O51: the code and the arguments of a frame name its command. -/
theorem frameOfACommandReadsBack : Obligations.FrameOfACommandReadsBack :=
  ⟨frameKind_frame, command_of_frameKind⟩

/-- Settles O52: each arm takes the frame of its command. -/
theorem namedCommandIsItsFrame : Obligations.NamedCommandIsItsFrame := by
  intro s
  simp only [takeFrame_frame, List.forall_mem_cons, List.not_mem_nil, false_implies, implies_true, and_true]
  refine ⟨?_, fun v => ?_, fun k => ?_, fun v k => rfl⟩
  · exact ⟨rfl, rfl, rfl, rfl, rfl, rfl, rfl, rfl⟩
  · exact ⟨rfl, rfl, rfl, rfl, rfl, rfl, rfl, rfl, rfl, rfl, rfl, rfl⟩
  · exact ⟨rfl, rfl, rfl, rfl, rfl, rfl⟩

end Sys2Proof.Proofs
end

section
/-! PROOFS. Frames that execute nothing, frames while the slot is EXECUTING, and RESULT frames (R185, R189 to R192). -/

-- One declaration after the other: side by side, the threads with their stacks outgrow the memory of the check.
set_option Elab.async false

namespace Sys2Proof.Machine

/-- R189 tests 3 to 5: a result is held for a frame that executes nothing. -/
theorem settleFrame_illFormed (s : State) (code : Byte) (h : s.link.slot.isExecuting = false) :
    settleFrame (.illFormed code) s = s.result code .badCheck [] := settleFrame_taken _ s h

theorem settleFrame_unknownCode (s : State) (code : Byte) (h : s.link.slot.isExecuting = false) :
    settleFrame (.unknownCode code) s = s.result code .unknown [] := settleFrame_taken _ s h

theorem settleFrame_wrongLength (s : State) (code : Byte) (h : s.link.slot.isExecuting = false) :
    settleFrame (.wrongLength code) s = s.result code .badArgument [] := settleFrame_taken _ s h

/-- The four frame rows take the bytes of their frame. -/
theorem exec_frameRows (s t : State) (frame : List Byte) (h : takeFrame frame s = t) :
    ∀ i ∈ ([.badCheck frame, .unknown frame, .overrun frame, .badArgumentLength frame] : List Instr),
      exec i s = .next t := by
  subst h
  simp only [List.forall_mem_cons, List.not_mem_nil, false_implies, implies_true, and_true]
  exact ⟨rfl, rfl, rfl, rfl⟩

theorem exec_resultFrame (s : State) (n : Nat) :
    exec (.resultFrame n) s = .next (s.frameEnds n fun s => if n = 0 then s else s.resultFrame n) := rfl

/-- R191: what a RESULT frame does to the link. -/
theorem resultFrame_eq (s : State) (n : Nat) :
    s.resultFrame n = { s with
      out := { s.out with miso := s.link.miso n }
      link := match s.link.slot with
        | .ready r => if 7 + r.bytes.length ≤ n then ⟨.empty, false⟩ else s.link
        | .empty => s.link
        | .executing _ _ => s.link } := by
  unfold State.resultFrame
  cases s.link.slot with
  | ready r =>
    simp only []
    split_ifs <;> rfl
  | _ => rfl

/-- R191: the two bits of the flags byte do not meet, so their union is their sum. -/
theorem flagsByte_eq : ∀ overrun unread : Bool,
    flagsByte overrun unread = (if overrun then 0x01 else 0x00) + (if unread then 0x02 else 0x00) := by
  decide

end Sys2Proof.Machine

namespace Sys2Proof.Proofs

open Sys2Proof.Machine

/-- Settles O53: by the kind of the frame, and by the reset pin. -/
theorem framesThatExecuteNothing : Obligations.FramesThatExecuteNothing := by
  refine ⟨fun s frame ⟨htakes, hslot⟩ => ⟨fun code hk => ?_, fun code hk => ?_, fun code hk => ?_,
    fun code n rest hframe hcode hbad => ?_⟩, fun code n args hargs hn => ?_, fun s frame length => ⟨fun hreset => ?_, fun hout hopen => ?_⟩⟩
  · have hsettled := takeFrame_settled frame s htakes (by simp [hk]) (by simp [hk])
    rw [hk, settleFrame_illFormed (s.framed frame.length) code hslot] at hsettled
    exact congrArg _ hsettled
  · have hsettled := takeFrame_settled frame s htakes (by simp [hk]) (by simp [hk])
    rw [hk, settleFrame_unknownCode (s.framed frame.length) code hslot] at hsettled
    exact congrArg _ hsettled
  · have hsettled := takeFrame_settled frame s htakes (by simp [hk]) (by simp [hk])
    rw [hk, settleFrame_wrongLength (s.framed frame.length) code hslot] at hsettled
    exact congrArg _ hsettled
  · subst hframe
    refine frameKind_illFormed code n rest hcode (Bool.eq_false_iff.2 fun hwell => ?_)
    obtain ⟨hn, hlength, hlast⟩ := (wellFormedRest_iff code n rest).1 hwell
    have hne : rest ≠ [] := by
      rintro rfl
      cases hlast
    rcases hbad with hbad | hbad | hbad
    · omega
    · simp [hlength] at hbad
    · rw [List.getLast?_cons_of_ne_nil (by simp), List.getLast?_cons_of_ne_nil hne,
        List.dropLast_cons_of_ne_nil (by simp), List.dropLast_cons_of_ne_nil hne] at hbad
      exact hbad hlast
  · refine ⟨fun hcode hnone => frameKind_unknown code n args hcode hargs hn hnone, fun x hx hcode hne => ?_,
      fun x hx hcode heq => ?_⟩
    · subst hcode
      exact frameKind_wrongLength x hx n args hargs hn (Ne.symm hne)
    · subst hcode
      obtain ⟨c, hc, -, hccode, hcargs⟩ := frameKind_command x hx n args hargs hn heq.symm
      exact ⟨c, hc, hccode, hcargs⟩
  · have htaken : takeFrame frame s = s.framed frame.length := s.frameEnds_inReset _ _ hreset
    refine ⟨htaken, exec_frameRows s _ frame htaken, ?_⟩
    rw [exec_resultFrame, s.frameEnds_inReset _ _ hreset]
  · have htaken : takeFrame frame s = { s.framed frame.length with resetPin := ⟨false, false⟩ } :=
      s.frameEnds_open _ _ hout hopen
    refine ⟨htaken, exec_frameRows s _ frame htaken, ?_⟩
    rw [exec_resultFrame, s.frameEnds_open _ _ hout hopen]

/-- Settles O54: a frame other than RESTART is ignored with the overrun mark, and RESTART absorbs a RESTART. -/
theorem executingSlotIgnoresFrames : Obligations.ExecutingSlotIgnoresFrames := by
  intro s d b htakes hslot
  have hignored (n : Nat) (k : FrameKind) (hk : k ≠ .command .restart) :
      settleFrame k (s.framed n) = { s.framed n with link := ⟨.executing d b, true⟩ } := by
    have hlink : (⟨s.link.slot, true⟩ : Link) = ⟨.executing d b, true⟩ := by rw [hslot]
    rw [settleFrame_ignored k (s.framed n) d b hslot hk]
    exact congrArg (fun l => { s.framed n with link := l }) hlink
  refine ⟨fun frame hresult hsilent hrestart => ?_, fun c hc => ?_, fun hd => ?_⟩
  · exact congrArg _ ((takeFrame_settled frame s htakes hsilent hresult).trans (hignored _ _ hrestart))
  · rw [takeFrame_settled c.frame s.quiet htakes (by simp [frameKind_frame]) (by simp [frameKind_frame]),
      frameKind_frame]
    exact hignored _ _ (by simpa using hc)
  · subst hd
    have hrestart : takeCommand .restart s = s.framed 3 := by
      unfold takeCommand
      rw [s.frameEnds_taken _ _ htakes]
      exact settleFrame_restart (s.framed 3) .restart b hslot
    exact congrArg _ hrestart

/-- Settles O55: the reply by the slot, and delivery by the length of the frame. -/
theorem resultFrameReplies : Obligations.ResultFrameReplies := by
  refine ⟨fun s htakes => ?_, fun s n htakes hn => ?_, by decide, fun l => ?_⟩
  · rw [exec_resultFrame, s.frameEnds_taken _ _ htakes]
    rfl
  · have hstep : exec (.resultFrame n) s = .next (s.quiet.resultFrame n) := by
      rw [exec_resultFrame, s.frameEnds_taken _ _ htakes, if_neg (by omega)]
    refine ⟨_, hstep, ?_⟩
    rw [resultFrame_eq]
    refine ⟨rfl, rfl, rfl, rfl, rfl, fun r hr => ?_, fun hnot => ?_⟩
    · simp [hr]
    · cases hslot : s.link.slot with
      | ready r => exact absurd hslot (hnot r)
      | _ => simp [hslot]
  · have hlast : l.reply.dropLast = l.replyBody := by simp [Link.reply]
    refine ⟨?_, by rw [hlast]; simp [Link.reply]⟩
    rw [hlast]
    obtain ⟨slot, overrun⟩ := l
    cases slot with
    | empty => simp [Link.replyBody, flagsByte_eq]
    | executing c b => cases c <;> simp [Link.replyBody, flagsByte_eq, DrainCommand.code, LinkCommand.code]
    | ready r => simp [Link.replyBody, flagsByte_eq, byteOf]

end Sys2Proof.Proofs
end

section
/-! PROOFS. An executed command of the management link holds its result (R189 test 6); the commands that read one entry
or record, and those that load the map (R95, R96, R99, R105, R178, R199, R200). -/

-- One declaration after the other: side by side, the threads with their stacks outgrow the memory of the check.
set_option Elab.async false

namespace Sys2Proof.Machine

/-- R189 test 6: what a command gives on the bridge whose frame has passed is what its row answers with. -/
theorem takeCommand_of_settled (c : LinkCommand) (s : State) (r : Settled) (h : TakesCommands s) (hstop : c ≠ .stop)
    (hrestart : c ≠ .restart) (hr : settledBy c (s.framed c.frame.length) = r) :
    takeCommand c s = r.state.result c.code r.status r.bytes := by
  have hlink : r.state.link = s.link := by
    rw [← hr, settledBy_link, State.framed_link]
  rw [takeCommand_executed c s h, runCommand_eq_held _ _ _ hstop hrestart, hr, Settled.held, ← State.hold_eq_result,
    hlink]

/-! ## The lowest-numbered FREE entry -/

theorem entryNumbers_find?_eq_some_iff (p : EntryNumber → Bool) (i : EntryNumber) :
    entryNumbers.find? p = some i ↔ p i = true ∧ ∀ j : EntryNumber, j < i → p j = false := by
  unfold entryNumbers
  rw [List.find?_eq_some_iff_getElem]
  constructor
  · rintro ⟨hi, k, hk, hki, hbefore⟩
    rw [List.getElem_finRange] at hki
    subst hki
    exact ⟨hi, fun j hj => by simpa using hbefore j.val hj⟩
  · rintro ⟨hi, hbefore⟩
    exact ⟨hi, i.val, by simp, by simp, fun j hj => by simpa using hbefore ⟨j, hj.trans i.isLt⟩ hj⟩

theorem State.lowestFree_eq_some_iff (s : State) (i : EntryNumber) : s.lowestFree = some i ↔ IsLowestFree s i := by
  unfold State.lowestFree
  rw [entryNumbers_find?_eq_some_iff]
  simp [IsLowestFree]

theorem State.mapIndex_eq_some_iff (s : State) (h : Nat) (i : EntryNumber) :
    s.mapIndex h = some i ↔ s.map[i].home? = some h ∧ ∀ j : EntryNumber, j < i → s.map[j].home? ≠ some h := by
  unfold State.mapIndex
  rw [entryNumbers_find?_eq_some_iff]
  simp

theorem State.mapIndex_isSome_iff (s : State) (h : Nat) :
    (s.mapIndex h).isSome = true ↔ ∃ j : EntryNumber, s.map[j].home? = some h := by
  rw [Option.isSome_iff_ne_none, Ne, State.mapIndex_eq_none_iff]
  push Not
  rfl

/-! ## LOAD MAP and LOAD RETIRED (R95, R96) -/

section
variable (s : State) (home : BitVec 32) (k : Byte)

theorem loadMap_refused (h : s.service ≠ .halted) : loadMap home k s = ⟨s, .refusedState, []⟩ := if_pos h

theorem loadMap_badArgument (h : s.service = .halted)
    (hrange : s.visibleLines ≤ home.toNat ∨ s.cfg.spareLines ≤ k.toNat) :
    loadMap home k s = ⟨s, .badArgument, []⟩ := by
  simp [loadMap, h, hrange]

theorem loadMap_inUse (h : s.service = .halted) (hhome : home.toNat < s.visibleLines) (hk : k.toNat < s.cfg.spareLines)
    (huse : (s.mapIndex home.toNat).isSome = true ∨ s.spares[k.toNat]? ≠ some .available) :
    loadMap home k s = ⟨s, .inUse, []⟩ := by
  have hrange : ¬ (s.visibleLines ≤ home.toNat ∨ s.cfg.spareLines ≤ k.toNat) := by omega
  by_cases hindex : (s.mapIndex home.toNat).isSome = true
  · simp [loadMap, h, hrange, hindex]
  · simp [loadMap, h, hrange, hindex, huse.resolve_left hindex]

theorem loadMap_loaded (i : EntryNumber) (h : s.service = .halted) (hhome : home.toNat < s.visibleLines)
    (hk : k.toNat < s.cfg.spareLines) (hindex : s.mapIndex home.toNat = none)
    (hspare : s.spares[k.toNat]? = some .available) (hi : s.lowestFree = some i) :
    loadMap home k s =
      ⟨(s.setMap i (.active home.toNat k.toNat)).setSpare k.toNat .allocated, .ok, [byteOf i.val]⟩ := by
  have hrange : ¬ (s.visibleLines ≤ home.toNat ∨ s.cfg.spareLines ≤ k.toNat) := by omega
  simp [loadMap, h, hrange, hindex, hspare, hi]

theorem loadRetired_refused (h : s.service ≠ .halted) : loadRetired k s = ⟨s, .refusedState, []⟩ := if_pos h

theorem loadRetired_badArgument (h : s.service = .halted) (hk : s.cfg.spareLines ≤ k.toNat) :
    loadRetired k s = ⟨s, .badArgument, []⟩ := by
  simp [loadRetired, h, hk]

theorem loadRetired_spare (v : SpareState) (h : s.service = .halted) (hk : k.toNat < s.cfg.spareLines)
    (hv : s.spares[k.toNat]? = some v) :
    loadRetired k s =
      match v with
      | .available => ⟨s.setSpare k.toNat .retired, .ok, []⟩
      | .allocated => ⟨s, .inUse, []⟩
      | .retired => ⟨s, .ok, []⟩ := by
  have hrange : ¬ s.cfg.spareLines ≤ k.toNat := by omega
  cases v <;> simp [loadRetired, h, hrange, hv]

end

/-! ## REQUEST SPARE and the enqueue rule (R104, R105) -/

section
variable (s : State) (q : SparingRequest) (tag : Option Tag)

theorem sparingOutcome_already (h : s.isMoving q.home = true ∨ ∃ x ∈ s.sparing, x.home = q.home) :
    s.sparingOutcome q = .already := by
  unfold State.sparingOutcome
  rcases h with h | ⟨x, hx, hhome⟩
  · simp [h]
  · have hany : (s.sparing.any fun q' => q'.home == q.home) = true := by
      rw [List.any_eq_true]
      exact ⟨x, hx, by simpa using hhome⟩
    simp [hany]

theorem sparingOutcome_full (h : s.isMoving q.home = false) (hnew : ∀ x ∈ s.sparing, x.home ≠ q.home)
    (hfull : 8 ≤ s.sparing.length) : s.sparingOutcome q = .full := by
  have hany : (s.sparing.any fun q' => q'.home == q.home) = false := by simpa using hnew
  simp [State.sparingOutcome, h, hany, Config.sparingCapacity, hfull]

theorem sparingOutcome_queued (h : s.isMoving q.home = false) (hnew : ∀ x ∈ s.sparing, x.home ≠ q.home)
    (hroom : s.sparing.length < 8) : s.sparingOutcome q = .queued := by
  have hany : (s.sparing.any fun q' => q'.home == q.home) = false := by simpa using hnew
  simp [State.sparingOutcome, h, hany, Config.sparingCapacity, Nat.not_le.2 hroom]

theorem offerSparing_already (h : s.isMoving q.home = true ∨ ∃ x ∈ s.sparing, x.home = q.home) :
    s.offerSparing q tag = s := by
  simp [State.offerSparing, sparingOutcome_already s q h]

theorem offerSparing_full (h : s.isMoving q.home = false) (hnew : ∀ x ∈ s.sparing, x.home ≠ q.home)
    (hfull : 8 ≤ s.sparing.length) :
    s.offerSparing q tag = s.offer
      { kind := .spareQueueFull, origin := q.origin, location := some (s.currentLocation q.home), tag := tag,
        detail := some (.reason q.reason) } := by
  simp [State.offerSparing, sparingOutcome_full s q h hnew hfull]

theorem offerSparing_queued (h : s.isMoving q.home = false) (hnew : ∀ x ∈ s.sparing, x.home ≠ q.home)
    (hroom : s.sparing.length < 8) : s.offerSparing q tag = { s with sparing := s.sparing ++ [q] } := by
  simp [State.offerSparing, sparingOutcome_queued s q h hnew hroom]

end

theorem requestSpare_refused (s : State) (home : BitVec 32) (h : s.service ≠ .running) :
    requestSpare home s = ⟨s, .refusedState, []⟩ := if_pos h

theorem requestSpare_badArgument (s : State) (home : BitVec 32) (h : s.service = .running)
    (hhome : s.visibleLines ≤ home.toNat) : requestSpare home s = ⟨s, .badArgument, []⟩ := by
  simp [requestSpare, h, hhome]

theorem requestSpare_offered (s : State) (home : BitVec 32) (h : s.service = .running)
    (hhome : home.toNat < s.visibleLines) :
    requestSpare home s = ⟨s.offerSparing ⟨home.toNat, .command, .management⟩ none,
      (s.sparingOutcome ⟨home.toNat, .command, .management⟩).status, []⟩ := by
  simp [requestSpare, h, hhome]

end Sys2Proof.Machine

namespace Sys2Proof.Proofs

open Sys2Proof.Machine

/-- Settles O24: by the tests of the two commands in their order. -/
theorem mapAndRetirementAreLoaded : Obligations.MapAndRetirementAreLoaded := by
  refine ⟨fun s home k h => ?_, fun s k h => ?_⟩
  · have hrun (r : Settled) (hr : loadMap home k (s.framed 8) = r) :
        exec (.loadMap home k) s = .next (r.state.result 0x30 r.status r.bytes) :=
      congrArg _ (takeCommand_of_settled (.loadMap home k) s r h nofun nofun hr)
    refine ⟨fun hs => hrun _ (loadMap_refused _ home k hs), fun hs => ⟨fun hrange =>
      hrun _ (loadMap_badArgument _ home k hs hrange), fun hhome hk => ⟨fun huse => hrun _ (loadMap_inUse _ home k hs
        hhome hk (.inl ((s.mapIndex_isSome_iff _).2 huse))), fun hfree => ⟨fun hspare => hrun _ (loadMap_inUse _ home k
          hs hhome hk (.inr hspare)), fun hspare i hi => ?_⟩⟩⟩⟩
    exact hrun _ (loadMap_loaded (s.framed 8) home k i hs hhome hk ((s.mapIndex_eq_none_iff _).2 hfree) hspare
      ((s.lowestFree_eq_some_iff i).2 hi))
  · have hrun (r : Settled) (hr : loadRetired k (s.framed 4) = r) :
        exec (.loadRetired k) s = .next (r.state.result 0x31 r.status r.bytes) :=
      congrArg _ (takeCommand_of_settled (.loadRetired k) s r h nofun nofun hr)
    refine ⟨fun hs => hrun _ (loadRetired_refused _ k hs), fun hs => ⟨fun hk => hrun _ (loadRetired_badArgument _ k hs hk),
      fun hk => ⟨fun hv => ?_, fun hv => ?_, fun hv => ?_⟩⟩⟩
    · exact hrun _ (loadRetired_spare (s.framed 4) k .available hs hk hv)
    · exact hrun _ (loadRetired_spare (s.framed 4) k .allocated hs hk hv)
    · exact hrun _ (loadRetired_spare (s.framed 4) k .retired hs hk hv)

/-- Settles O25: by the outcome of the enqueue rule. -/
theorem requestSpareReportsTheEnqueueRule : Obligations.RequestSpareReportsTheEnqueueRule := by
  refine ⟨fun s home h => ?_, fun s q tag => ⟨offerSparing_already s q tag, fun hmoving hnew =>
    ⟨offerSparing_full s q tag hmoving hnew, offerSparing_queued s q tag hmoving hnew⟩⟩⟩
  have hrun (r : Settled) (hr : requestSpare home (s.framed 7) = r) :
      exec (.requestSpare home) s = .next (r.state.result 0x32 r.status r.bytes) :=
    congrArg _ (takeCommand_of_settled (.requestSpare home) s r h nofun nofun hr)
  refine ⟨fun hs => hrun _ (requestSpare_refused _ home hs), fun hs hhome => hrun _ (requestSpare_badArgument _ home hs
    hhome), fun hs hhome => ?_⟩
  have hoffered := requestSpare_offered (s.framed 7) home hs hhome
  refine ⟨fun halready => ?_, fun hmoving hnew => ⟨fun hfull => ?_, fun hroom => ?_⟩⟩
  · rw [sparingOutcome_already (s.framed 7) ⟨home.toNat, .command, .management⟩ halready,
      offerSparing_already (s.framed 7) ⟨home.toNat, .command, .management⟩ none halready] at hoffered
    exact hrun _ hoffered
  · rw [sparingOutcome_full (s.framed 7) ⟨home.toNat, .command, .management⟩ hmoving hnew hfull,
      offerSparing_full (s.framed 7) ⟨home.toNat, .command, .management⟩ none hmoving hnew hfull] at hoffered
    exact hrun _ hoffered
  · rw [sparingOutcome_queued (s.framed 7) ⟨home.toNat, .command, .management⟩ hmoving hnew hroom,
      offerSparing_queued (s.framed 7) ⟨home.toNat, .command, .management⟩ none hmoving hnew hroom] at hoffered
    exact hrun _ hoffered

end Sys2Proof.Proofs
end

section
/-! PROOFS. The commands that read the bridge: TAKE EVENT, the snapshots, and one entry, spare, record or request
(R83, R99, R106, R178, R181, R182, R195, R196, R199 to R202). -/

-- One declaration after the other: side by side, the threads with their stacks outgrow the memory of the check.
set_option Elab.async false

namespace Sys2Proof.Machine

/-! ## Result bytes -/

theorem EventRecord.bytes_length (r : EventRecord) : r.bytes.length = 14 := by
  unfold EventRecord.bytes
  cases h : r.event.location with
  | none => rfl
  | some l => cases l <;> rfl

/-- R202: the presence bits, in the order of the byte. -/
def presenceByte (location chunk count tag detail lost : Bool) : Byte :=
  (if location then 0x01 else 0) ||| (if chunk then 0x02 else 0) ||| (if count then 0x04 else 0) |||
  (if tag then 0x08 else 0) ||| (if detail then 0x10 else 0) ||| (if lost then 0x80 else 0)

theorem presenceByte_bits : ∀ location chunk count tag detail lost : Bool,
    (presenceByte location chunk count tag detail lost).getLsbD 0 = location ∧
    (presenceByte location chunk count tag detail lost).getLsbD 1 = chunk ∧
    (presenceByte location chunk count tag detail lost).getLsbD 2 = count ∧
    (presenceByte location chunk count tag detail lost).getLsbD 3 = tag ∧
    (presenceByte location chunk count tag detail lost).getLsbD 4 = detail ∧
    (presenceByte location chunk count tag detail lost).getLsbD 7 = lost := by
  decide

theorem EventRecord.presence_eq (r : EventRecord) :
    r.presence = presenceByte r.event.location.isSome r.event.chunk.isSome r.event.chunkCount.isSome
      r.event.tag.isSome r.event.detail.isSome r.lost := rfl

/-- R202: the location field of an event record. -/
theorem EventRecord.bytes_location (r : EventRecord) :
    (r.bytes.drop 5).take 5 = (match r.event.location with
      | none => [0, 0, 0, 0, 0]
      | some (.home h) => 0 :: bytes4 (BitVec.ofNat 32 h)
      | some (.spare n) => 1 :: bytes4 (BitVec.ofNat 32 n)) := by
  unfold EventRecord.bytes
  cases r.event.location with
  | none => rfl
  | some l => cases l <;> rfl

/-- R202: the fields after the location, an absent one as 0. -/
theorem EventRecord.bytes_rest (r : EventRecord) :
    r.bytes.drop 10 = [byteOf ((r.event.chunk.map (·.val)).getD 0), byteOf (r.event.chunkCount.getD 0),
      byteOf ((r.event.tag.map (·.val)).getD 0), byteOf ((r.event.detail.map Detail.code).getD 0)] := by
  unfold EventRecord.bytes
  cases r.event.location with
  | none => rfl
  | some l => cases l <;> rfl

theorem Detail.byteOf_code (d : Option Detail) :
    byteOf ((d.map Detail.code).getD 0) = match d with
      | none => 0
      | some (.spare n) => BitVec.ofNat 8 n
      | some (.stage .read) => 0
      | some (.stage .write) => 1
      | some (.slot n) => BitVec.ofNat 8 n.val
      | some (.reason .threshold) => 0
      | some (.reason .uncorrectable) => 1
      | some (.reason .command) => 2 := by
  cases d with
  | none => rfl
  | some x =>
    cases x with
    | stage y => cases y <;> rfl
    | reason y => cases y <;> rfl
    | _ => rfl

theorem Location.bytes_eq (l : Location) :
    l.bytes = match l with
      | .home h => 0 :: bytes4 (BitVec.ofNat 32 h)
      | .spare n => 1 :: bytes4 (BitVec.ofNat 32 n) := by
  cases l <;> rfl

/-- R196: the items are numbered from 1 to 10. -/
theorem Configuration.value_eq_none (c : Configuration) (n : Nat) (h : n = 0 ∨ 10 < n) : c.value n = none := by
  rcases h with rfl | h
  · rfl
  · obtain ⟨k, rfl⟩ : ∃ k, n = k + 11 := ⟨n - 11, by omega⟩
    rfl

/-! ## One entry, spare, record or request -/

section
variable (s : State) (k : Byte)

theorem readMapEntry_entry (i : EntryNumber) (h : i.val = k.toNat) : readMapEntry k s = ⟨s, .ok, (s.map[i]).bytes⟩ := by
  have hk : k.toNat < 128 := h ▸ i.isLt
  obtain rfl : i = ⟨k.toNat, hk⟩ := Fin.ext h
  exact dif_pos hk

theorem readMapEntry_badArgument (h : 128 ≤ k.toNat) : readMapEntry k s = ⟨s, .badArgument, []⟩ :=
  dif_neg (Nat.not_lt.2 h)

theorem readSpare_badArgument (h : s.cfg.spareLines ≤ k.toNat) : readSpare k s = ⟨s, .badArgument, []⟩ := if_pos h

theorem readSpare_spare (v : SpareState) (h : k.toNat < s.cfg.spareLines) (hv : s.spares[k.toNat]? = some v) :
    readSpare k s = ⟨s, .ok, [byteOf v.code]⟩ := by
  simp [readSpare, Nat.not_le.2 h, hv]

theorem readSuspect_badArgument (h : 32 ≤ k.toNat) : readSuspect k s = ⟨s, .badArgument, []⟩ := if_pos h

theorem readSuspect_empty (hk : k.toNat < 32) (h : s.suspects.length ≤ k.toNat) :
    readSuspect k s = ⟨s, .empty, []⟩ := by
  simp [readSuspect, Config.suspectCapacity, Nat.not_le.2 hk, h]

theorem readSuspect_record (r : SuspectRecord) (hk : k.toNat < 32) (h : s.suspects[k.toNat]? = some r) :
    readSuspect k s = ⟨s, .ok, r.bytes⟩ := by
  simp [readSuspect, Config.suspectCapacity, Nat.not_le.2 hk, h]

theorem readSparingQueue_badArgument (h : 8 ≤ k.toNat) : readSparingQueue k s = ⟨s, .badArgument, []⟩ := if_pos h

theorem readSparingQueue_empty (hk : k.toNat < 8) (h : s.sparing.length ≤ k.toNat) :
    readSparingQueue k s = ⟨s, .empty, []⟩ := by
  simp [readSparingQueue, Config.sparingCapacity, Nat.not_le.2 hk, h]

theorem readSparingQueue_request (r : SparingRequest) (hk : k.toNat < 8) (h : s.sparing[k.toNat]? = some r) :
    readSparingQueue k s = ⟨s, .ok, r.bytes⟩ := by
  simp [readSparingQueue, Config.sparingCapacity, Nat.not_le.2 hk, h]

theorem findMap_badArgument (home : BitVec 32) (h : s.visibleLines ≤ home.toNat) :
    findMap home s = ⟨s, .badArgument, []⟩ := if_pos h

theorem findMap_notFound (home : BitVec 32) (h : home.toNat < s.visibleLines) (hi : s.mapIndex home.toNat = none) :
    findMap home s = ⟨s, .notFound, []⟩ := by
  simp [findMap, Nat.not_le.2 h, hi]

theorem findMap_entry (home : BitVec 32) (i : EntryNumber) (h : home.toNat < s.visibleLines)
    (hi : s.mapIndex home.toNat = some i) : findMap home s = ⟨s, .ok, [byteOf i.val]⟩ := by
  simp [findMap, Nat.not_le.2 h, hi]

end

theorem MapEntry.bytes_eq (e : MapEntry) :
    e.bytes = match e with
      | .free => [0, 0, 0, 0, 0, 0xFF, 0xFF]
      | .active h n => 1 :: bytes4 (BitVec.ofNat 32 h) ++ [BitVec.ofNat 8 n, 0xFF]
      | .moving h .home n => 2 :: bytes4 (BitVec.ofNat 32 h) ++ [0xFF, BitVec.ofNat 8 n]
      | .moving h (.spare a) n => 2 :: bytes4 (BitVec.ofNat 32 h) ++ [BitVec.ofNat 8 a, BitVec.ofNat 8 n] := by
  cases e with
  | moving h old n => cases old <;> rfl
  | _ => rfl

theorem SpareState.byteOf_code (v : SpareState) :
    byteOf v.code = match v with | .available => 0 | .allocated => 1 | .retired => 2 := by
  cases v <;> rfl

theorem SuspectRecord.bytes_eq (r : SuspectRecord) :
    r.bytes = (match r.location with
      | .home h => 0 :: bytes4 (BitVec.ofNat 32 h)
      | .spare n => 1 :: bytes4 (BitVec.ofNat 32 n)) ++ [BitVec.ofNat 8 r.count, if r.touched then 1 else 0] := by
  cases r with
  | mk location count touched => cases location <;> rfl

theorem SparingRequest.bytes_eq (r : SparingRequest) :
    r.bytes = bytes4 (BitVec.ofNat 32 r.home) ++
      ([match r.reason with | .threshold => 0 | .uncorrectable => 1 | .command => 2,
        match r.origin with
        | .u0 => 0
        | .u1 => 1
        | .scrub => 2
        | .migration => 3
        | .memoryPort => 4
        | .management => 5
        | .service => 6] : List Byte) := by
  obtain ⟨home, reason, origin⟩ := r
  cases reason <;> cases origin <;> rfl

end Sys2Proof.Machine

namespace Sys2Proof.Proofs

open Sys2Proof.Machine

/-- Settles O45: by the codes, and by the head of the Event Queue. -/
theorem takeEventRemovesTheHead : Obligations.TakeEventRemovesTheHead := by
  refine ⟨by decide, by decide, fun s h => ?_⟩
  have hrun (r : Settled) (hr : takeEvent (s.framed 3) = r) :
      exec .takeEvent s = .next (r.state.result 0x48 r.status r.bytes) :=
    congrArg _ (takeCommand_of_settled .takeEvent s r h nofun nofun hr)
  refine ⟨fun hempty => hrun ⟨s.framed 3, .empty, []⟩ ?_, fun r rest hhead => ⟨hrun ⟨{ s.framed 3 with events := { s.events with
    records := rest } }, .ok, r.bytes⟩ ?_, r.bytes_length, ?_, fun presence hpresence => ?_, r.bytes_location, ?_⟩⟩
  · unfold takeEvent
    rw [show (s.framed 3).events.records = [] from hempty]
  · unfold takeEvent
    rw [show (s.framed 3).events.records = r :: rest from hhead]
    rfl
  · rfl
  · obtain rfl : r.presence = presence := Option.some.inj hpresence
    rw [r.presence_eq]
    exact presenceByte_bits _ _ _ _ _ _
  · rw [r.bytes_rest, Detail.byteOf_code]
    cases r.event.chunk <;> cases r.event.chunkCount <;> cases r.event.tag <;> rfl

/-- Settles O46: field by field of the snapshot, and item by item of the configuration. -/
theorem snapshotsReportTheBridge : Obligations.SnapshotsReportTheBridge := by
  intro s h
  refine ⟨?_, ⟨s.stateBytes, ?_, ?_⟩, ?_, ?_, fun item v hv => ?_, fun item hitem => ?_⟩
  · exact congrArg _ (takeCommand_of_settled .readIdentity s _ h nofun nofun rfl)
  · exact congrArg _ (takeCommand_of_settled .readState s ⟨s.framed 3, .ok, s.stateBytes⟩ h nofun nofun rfl)
  · refine ⟨rfl, ?_, fun m hm => ?_, fun hidle => ?_, rfl, rfl⟩
    · unfold State.stateBytes
      cases s.service <;> cases s.lastReset <;> cases s.engine <;> rfl
    · unfold State.stateBytes
      rw [hm]
      rfl
    · unfold State.stateBytes
      rw [hidle]
      rfl
  · exact congrArg _ (takeCommand_of_settled .readCounters s ⟨s.framed 3, .ok, s.counters.bytes⟩ h nofun nofun rfl)
  · exact congrArg _ (takeCommand_of_settled .clearCounters s _ h nofun nofun rfl)
  · have hvalue : s.cfg.value item.toNat = some v := by
      rcases hv with ⟨hi, rfl⟩ | ⟨hi, rfl⟩ | ⟨hi, rfl⟩ | ⟨hi, rfl⟩ | ⟨hi, rfl⟩ | ⟨hi, rfl⟩ | ⟨hi, rfl⟩ | ⟨hi, rfl⟩ |
        ⟨hi, rfl⟩ | ⟨hi, rfl⟩ <;> rw [hi] <;> rfl
    refine congrArg _ (takeCommand_of_settled (.readConfig item) s ⟨s.framed 4, .ok, number4 v⟩ h nofun nofun ?_)
    show readConfig item (s.framed 4) = _
    unfold readConfig
    rw [show (s.framed 4).cfg.value item.toNat = some v from hvalue]
  · have hvalue : s.cfg.value item.toNat = none := s.cfg.value_eq_none item.toNat hitem
    refine congrArg _ (takeCommand_of_settled (.readConfig item) s ⟨s.framed 4, .badArgument, []⟩ h nofun nofun ?_)
    show readConfig item (s.framed 4) = _
    unfold readConfig
    rw [show (s.framed 4).cfg.value item.toNat = none from hvalue]

/-- Settles O47: by the tests of each command in their order. -/
theorem tablesAreReadByNumber : Obligations.TablesAreReadByNumber := by
  intro s h
  have hrun (c : LinkCommand) (st : Status) (bytes : List Byte) (hstop : c ≠ .stop) (hrestart : c ≠ .restart)
      (hr : settledBy c (s.framed c.frame.length) = ⟨s.framed c.frame.length, st, bytes⟩) :
      takeCommand c s = (s.framed c.frame.length).result c.code st bytes :=
    takeCommand_of_settled c s _ h hstop hrestart hr
  have hmapEntry (k : Byte) (st : Status) (bytes : List Byte)
      (hr : readMapEntry k (s.framed 4) = ⟨s.framed 4, st, bytes⟩) :
      exec (.readMapEntry k) s = .next ((s.framed 4).result 0x38 st bytes) :=
    congrArg _ (hrun (.readMapEntry k) st bytes nofun nofun hr)
  have hspare (k : Byte) (st : Status) (bytes : List Byte)
      (hr : readSpare k (s.framed 4) = ⟨s.framed 4, st, bytes⟩) :
      exec (.readSpare k) s = .next ((s.framed 4).result 0x3A st bytes) :=
    congrArg _ (hrun (.readSpare k) st bytes nofun nofun hr)
  have hsuspect (k : Byte) (st : Status) (bytes : List Byte)
      (hr : readSuspect k (s.framed 4) = ⟨s.framed 4, st, bytes⟩) :
      exec (.readSuspect k) s = .next ((s.framed 4).result 0x40 st bytes) :=
    congrArg _ (hrun (.readSuspect k) st bytes nofun nofun hr)
  have hsparing (k : Byte) (st : Status) (bytes : List Byte)
      (hr : readSparingQueue k (s.framed 4) = ⟨s.framed 4, st, bytes⟩) :
      exec (.readSparingQueue k) s = .next ((s.framed 4).result 0x41 st bytes) :=
    congrArg _ (hrun (.readSparingQueue k) st bytes nofun nofun hr)
  have hfind (home : BitVec 32) (st : Status) (bytes : List Byte)
      (hr : findMap home (s.framed 7) = ⟨s.framed 7, st, bytes⟩) :
      exec (.findMap home) s = .next ((s.framed 7).result 0x39 st bytes) :=
    congrArg _ (hrun (.findMap home) st bytes nofun nofun hr)
  refine ⟨fun k => ⟨fun i hi => ?_, fun hk => hmapEntry k _ _ (readMapEntry_badArgument _ k hk),
    fun hk => hspare k _ _ (readSpare_badArgument _ k hk), fun v hk hv => ?_,
    fun hk => hsuspect k _ _ (readSuspect_badArgument _ k hk), fun hk hl => hsuspect k _ _ (readSuspect_empty _ k hk hl),
    fun r hk hr => ?_, fun hk => hsparing k _ _ (readSparingQueue_badArgument _ k hk),
    fun hk hl => hsparing k _ _ (readSparingQueue_empty _ k hk hl), fun r hk hr => ?_⟩,
    fun home => ⟨fun hhome => hfind home _ _ (findMap_badArgument _ home hhome), fun hhome =>
      ⟨fun hnone => hfind home _ _ (findMap_notFound _ home hhome ((s.mapIndex_eq_none_iff _).2 hnone)),
        fun i hlaw hi => hfind home _ _ (findMap_entry _ home i hhome (hlaw.mapIndex i _ hi))⟩⟩⟩
  · rw [hmapEntry k _ _ (readMapEntry_entry _ k i hi), MapEntry.bytes_eq] <;> rfl
  · rw [hspare k _ _ (readSpare_spare _ k v hk hv), SpareState.byteOf_code] <;> rfl
  · rw [hsuspect k _ _ (readSuspect_record _ k r hk hr), SuspectRecord.bytes_eq] <;> rfl
  · rw [hsparing k _ _ (readSparingQueue_request _ k r hk hr), SparingRequest.bytes_eq] <;> rfl

end Sys2Proof.Proofs
end

section
/-! PROOFS. The held requests outside RUNNING, tested again (R21, R23). -/

-- One declaration after the other: side by side, the threads with their stacks outgrow the memory of the check.
set_option Elab.async false

namespace Sys2Proof.Machine

theorem HeldLaw.port {s : State} (h : HeldLaw s) (p : Port) (r : Request) (hr : s.heldAt p = some r) : r.port = p := by
  cases p
  · exact h.1 r hr
  · exact h.2 r hr

theorem State.setHeld_heldAt (s : State) (p : Port) (r : Option Request) (h : s.heldAt p = r) : s.setHeld p r = s := by
  subst h
  cases p <;> rfl

theorem State.retest_of_unheld (s : State) (p : Port) (h : s.heldAt p = none) : s.retest p = s := by
  simp [State.retest, h]

theorem HeldLaw.retest {s : State} (hlaw : HeldLaw s) (p : Port) (r : Request) (h : s.heldAt p = some r) :
    s.retest p = s.present r := by
  have hport := hlaw.port p r h
  subst hport
  simp [State.retest, h]

/-- When a test of one port leaves the state as it is, so does the testing of both, but for the draw of the order. -/
theorem retestHeld_of_kept (s : State) (h : ∀ d p, ({ s with draws := d } : State).retest p = { s with draws := d }) :
    ∃ d, s.retestHeld = { s with draws := d } := by
  unfold State.retestHeld
  split
  · simp only []
    cases Config.freeFirstPort s.draws <;> exact ⟨s.draws + 1, by simp only [h]⟩
  · exact ⟨s.draws, h s.draws .u0⟩
  · exact ⟨s.draws, h s.draws .u1⟩
  · exact ⟨s.draws, rfl⟩

theorem HeldStays.retest {s : State} (h : HeldStays s) (hservice : s.service ≠ .running) (p : Port) :
    s.retest p = s := by
  obtain ⟨hlaw, hstays⟩ := h
  cases hr : s.heldAt p with
  | none => exact s.retest_of_unheld p hr
  | some r =>
    obtain ⟨hpolicy, hentry⟩ := hstays p r hr
    have hport := hlaw.port p r hr
    have hjudge : s.judge r = .hold := by
      rw [s.judge_of_not_running r (by rw [hport]; exact hentry) hservice, if_pos hpolicy]
    rw [hlaw.retest p r hr, s.present_hold r hjudge, hport, s.setHeld_heldAt p _ hr]

theorem HeldStays.retestHeld {s : State} (h : HeldStays s) (hservice : s.service ≠ .running) :
    ∃ d, s.retestHeld = { s with draws := d } :=
  retestHeld_of_kept s fun d p => HeldStays.retest (s := { s with draws := d }) h hservice p

/-- R23: the answer of a request that HALTED_POLICY REFUSE does not hold. -/
def offlineResponse (r : Request) : Response := ⟨r.tag, .offline, []⟩

theorem retest_refused {s : State} (hlaw : HeldLaw s) (htt : s.tt = []) (hservice : s.service ≠ .running)
    (hpolicy : s.cfg.haltedPolicy = .refuse) (p : Port) (r : Request) (h : s.heldAt p = some r) :
    s.retest p = (s.setHeld p none).respond p (offlineResponse r) := by
  have hport := hlaw.port p r h
  have hjudge : s.judge r = .offline := by
    rw [s.judge_of_not_running r (by simp [htt]) hservice, hpolicy]
    rfl
  rw [hlaw.retest p r h]
  simp only [State.present, hjudge, hport]
  rfl

/-- R23: under REFUSE, with no entry, the requests held outside RUNNING are answered OFFLINE. -/
theorem retestHeld_refused {s : State} (hlaw : HeldLaw s) (htt : s.tt = []) (hservice : s.service ≠ .running)
    (hpolicy : s.cfg.haltedPolicy = .refuse) :
    ∃ d, s.retestHeld = { s with
      ports := ⟨none, none⟩
      draws := d
      out := { s.out with
        u0 := s.out.u0 ++ s.ports.heldU0.toList.map offlineResponse
        u1 := s.out.u1 ++ s.ports.heldU1.toList.map offlineResponse } } := by
  have hrefused (t : State) (ht : HeldLaw t) (tt : t.tt = s.tt) (service : t.service = s.service)
      (cfg : t.cfg = s.cfg) (p : Port) (r : Request) (h : t.heldAt p = some r) :
      t.retest p = (t.setHeld p none).respond p (offlineResponse r) :=
    retest_refused ht (tt.trans htt) (by rwa [service]) (by rwa [cfg]) p r h
  unfold State.retestHeld
  cases h₀ : s.ports.heldU0 with
  | none =>
    cases h₁ : s.ports.heldU1 with
    | none =>
      have hports : s.ports = ⟨none, none⟩ := by
        rw [show s.ports = ⟨s.ports.heldU0, s.ports.heldU1⟩ from rfl, h₀, h₁]
      exact ⟨s.draws, by simp [← hports]⟩
    | some r => exact ⟨s.draws, by simp [hrefused s hlaw rfl rfl rfl .u1 r h₁, State.setHeld, State.respond, ← h₀]⟩
  | some r =>
    cases h₁ : s.ports.heldU1 with
    | none => exact ⟨s.draws, by simp [hrefused s hlaw rfl rfl rfl .u0 r h₀, State.setHeld, State.respond, ← h₁]⟩
    | some r' =>
      refine ⟨s.draws + 1, ?_⟩
      have hdrawn : HeldLaw { s with draws := s.draws + 1 } := hlaw
      cases Config.freeFirstPort s.draws with
      | u0 =>
        simp only []
        rw [hrefused _ hdrawn rfl rfl rfl .u0 r h₀,
          hrefused (State.respond (State.setHeld { s with draws := s.draws + 1 } .u0 none) .u0 (offlineResponse r))
            (hdrawn.setHeld .u0 none (by simp)) rfl rfl rfl .u1 r' h₁]
        rfl
      | u1 =>
        simp only []
        rw [hrefused _ hdrawn rfl rfl rfl .u1 r' h₁,
          hrefused (State.respond (State.setHeld { s with draws := s.draws + 1 } .u1 none) .u1 (offlineResponse r'))
            (hdrawn.setHeld .u1 none (by simp)) rfl rfl rfl .u0 r h₀]
        rfl

end Sys2Proof.Machine
end

section
/-! PROOFS. CONFIGURE: its tests in order and its effects (R23, R82, R98, R146, R196, R197). -/

-- One declaration after the other: side by side, the threads with their stacks outgrow the memory of the check.
set_option Elab.async false

namespace Sys2Proof.Machine

/-! ## The tests of R196 -/

section
variable (s : State) (inRange inUse : Bool) (set : State → State)

theorem configured_refused (h : s.service ≠ .halted) : configured s inRange inUse set = ⟨s, .refusedState, []⟩ :=
  if_pos h

theorem configured_badArgument (h : s.service = .halted) (hrange : inRange = false) :
    configured s inRange inUse set = ⟨s, .badArgument, []⟩ := by
  simp [configured, h, hrange]

theorem configured_inUse (h : s.service = .halted) (hrange : inRange = true) (huse : inUse = true) :
    configured s inRange inUse set = ⟨s, .inUse, []⟩ := by
  simp [configured, h, hrange, huse]

theorem configured_set (h : s.service = .halted) (hrange : inRange = true) (huse : inUse = false) :
    configured s inRange inUse set = ⟨set s, .ok, []⟩ := by
  simp [configured, h, hrange, huse]

end

/-- R196: every item has the state test first. -/
theorem configure_refused (item : Byte) (v : BitVec 32) (s : State) (h : s.service ≠ .halted) :
    configure item v s = ⟨s, .refusedState, []⟩ := by
  unfold configure
  split <;> exact configured_refused s _ _ _ h

/-- R196: an item outside 1 to 10. -/
theorem configure_unnamed (item : Byte) (v : BitVec 32) (s : State) (h : item.toNat = 0 ∨ 10 < item.toNat) :
    configure item v s = configured s false false id := by
  unfold configure
  generalize item.toNat = n at h
  rcases h with rfl | h
  · rfl
  · obtain ⟨k, rfl⟩ : ∃ k, n = k + 11 := ⟨n - 11, by omega⟩
    rfl

theorem lineCountsInUse_eq_false_iff (s : State) :
    s.lineCountsInUse = false ↔ (∀ i : EntryNumber, s.map[i] = .free) ∧ ∀ v ∈ s.spares, v = .available := by
  simp only [State.lineCountsInUse, Bool.or_eq_false_iff, Bool.not_eq_false', State.mapAllFree_iff,
    List.any_eq_false, bne_iff_ne, ne_eq, Decidable.not_not]

theorem lineCountsInUse_of_used (s : State)
    (h : (∃ j : EntryNumber, s.map[j] ≠ .free) ∨ ∃ x ∈ s.spares, x ≠ .available) : s.lineCountsInUse = true := by
  rw [← Bool.not_eq_false, lineCountsInUse_eq_false_iff]
  rintro ⟨hmap, hspares⟩
  rcases h with ⟨j, hj⟩ | ⟨x, hx, hne⟩
  · exact hj (hmap j)
  · exact hne (hspares x hx)

/-! ## The rows -/

/-- What a CONFIGURE gives is what its row answers with. -/
theorem takeCommand_configure (item : Byte) (v : BitVec 32) (s : State) (r : Settled) (h : TakesCommands s)
    (hr : configure item v (s.framed 8) = r) :
    takeCommand (.configure item v) s = r.state.result 0x10 r.status r.bytes :=
  takeCommand_of_settled (.configure item v) s r h nofun nofun hr

/-- Each CONFIGURE row is the CONFIGURE of one item. -/
theorem exec_configureRows (v : BitVec 32) (s : State) :
    ∀ i ∈ ([.configureInstalledLines v, .configureSpareLines v, .configureSpareThreshold v,
        .configureTickShift v, .configureScrubInterval v, .configureDownstreamTimeout v,
        .configureHaltedPolicy v, .configureRepairEnable v, .configureEventMask v,
        .configureAlertEnable v] : List Instr),
      ∃ item, exec i s = .next (takeCommand (.configure item v) s) := by
  simp only [List.forall_mem_cons, List.not_mem_nil, false_implies, implies_true, and_true]
  exact ⟨⟨1, rfl⟩, ⟨2, rfl⟩, ⟨3, rfl⟩, ⟨4, rfl⟩, ⟨5, rfl⟩, ⟨6, rfl⟩, ⟨7, rfl⟩, ⟨8, rfl⟩, ⟨9, rfl⟩, ⟨10, rfl⟩⟩

/-- R196: out of the range of its item a CONFIGURE row answers BAD_ARGUMENT. -/
theorem exec_configureRows_outOfRange (v : BitVec 32) (s : State) (h : TakesCommands s) (hs : s.service = .halted) :
    ∀ x ∈ ([(.configureInstalledLines v, 16, 30), (.configureSpareLines v, 0, 128),
        (.configureSpareThreshold v, 1, 15), (.configureTickShift v, 0, 7),
        (.configureScrubInterval v, 0, 65535), (.configureDownstreamTimeout v, 0, 255),
        (.configureHaltedPolicy v, 0, 1), (.configureRepairEnable v, 0, 1),
        (.configureEventMask v, 0, 65535), (.configureAlertEnable v, 0, 1)] : List (Instr × Nat × Nat)),
      ¬ (x.2.1 ≤ v.toNat ∧ v.toNat ≤ x.2.2) → exec x.1 s = .next ((s.framed 8).result 0x10 .badArgument []) := by
  have hrun (item : Byte) (hr : configure item v (s.framed 8) = ⟨s.framed 8, .badArgument, []⟩) :
      (.next (takeCommand (.configure item v) s) : Host.Outcome State Fault Refusal) =
        .next ((s.framed 8).result 0x10 .badArgument []) :=
    congrArg _ (takeCommand_configure item v s _ h hr)
  simp only [List.forall_mem_cons, List.not_mem_nil, false_implies, implies_true, and_true]
  refine ⟨fun hv => hrun 1 (?_ : configureInstalledLines v (s.framed 8) = _),
    fun hv => hrun 2 (?_ : configureSpareLines v (s.framed 8) = _),
    fun hv => hrun 3 (?_ : configureSpareThreshold v (s.framed 8) = _),
    fun hv => hrun 4 (?_ : configureTickShift v (s.framed 8) = _),
    fun hv => hrun 5 (?_ : configureScrubInterval v (s.framed 8) = _),
    fun hv => hrun 6 (?_ : configureDownstreamTimeout v (s.framed 8) = _),
    fun hv => hrun 7 (?_ : configureHaltedPolicy v (s.framed 8) = _),
    fun hv => hrun 8 (?_ : configureRepairEnable v (s.framed 8) = _),
    fun hv => hrun 9 (?_ : configureEventMask v (s.framed 8) = _),
    fun hv => hrun 10 (?_ : configureAlertEnable v (s.framed 8) = _)⟩ <;>
  exact configured_badArgument (s.framed 8) _ _ _ hs (decide_eq_false (by omega))

end Sys2Proof.Machine

namespace Sys2Proof.Proofs

open Sys2Proof.Machine

/-- Settles O48: by the tests of R196 in their order. -/
theorem configureIsRefused : Obligations.ConfigureIsRefused := by
  refine ⟨fun s item v h hitem => ?_, fun s v h => ⟨fun hs i hi => ?_, fun hs => ⟨exec_configureRows_outOfRange v s h hs,
    fun hused => ⟨fun hlow hhigh => ?_, fun hhigh => ?_⟩⟩⟩⟩
  · have htaken : takeFrame (LinkCommand.configure item v).frame s =
        (s.framed 8).result 0x10 (if s.service = .halted then .badArgument else .refusedState) [] := by
      rw [← takeCommand_configure item v s
        ⟨s.framed 8, if s.service = .halted then .badArgument else .refusedState, []⟩ h ?_]
      · exact takeFrame_frame (.configure item v) s
      · rw [configure_unnamed item v (s.framed 8) hitem]
        split
        next hs => exact configured_badArgument (s.framed 8) _ _ _ hs rfl
        next hs => exact configured_refused (s.framed 8) _ _ _ hs
    exact ⟨htaken, exec_frameRows s _ _ htaken⟩
  · obtain ⟨item, hexec⟩ := exec_configureRows v s i hi
    rw [hexec, takeCommand_configure item v s _ h (configure_refused item v (s.framed 8) hs)]
  · exact congrArg _ (takeCommand_configure 1 v s _ h (show configureInstalledLines v (s.framed 8) = _ from
      configured_inUse (s.framed 8) _ _ _ hs
      (decide_eq_true ⟨hlow, hhigh⟩) (lineCountsInUse_of_used (s.framed 8) hused)))
  · exact congrArg _ (takeCommand_configure 2 v s _ h (show configureSpareLines v (s.framed 8) = _ from
      configured_inUse (s.framed 8) _ _ _ hs
      (decide_eq_true hhigh) (lineCountsInUse_of_used (s.framed 8) hused)))

/-- Settles O49: item by item, by the effect that R196 names for it. -/
theorem configureSetsTheItem : Obligations.ConfigureSetsTheItem := by
  intro s v h hs
  have hrun (item : Byte) (t : State) (hr : configure item v (s.framed 8) = ⟨t, .ok, []⟩) :
      (.next (takeCommand (.configure item v) s) : Host.Outcome State Fault Refusal) = .next (t.result 0x10 .ok []) :=
    congrArg _ (takeCommand_configure item v s _ h hr)
  refine ⟨fun hmap hspares => ?_, fun hlow hhigh => ?_, fun hhigh => ?_, fun hhigh => ?_, fun hhigh => ?_,
    fun hheld htt => ?_, fun hhigh => ?_, fun hhigh => ?_, fun hhigh => ?_⟩
  · have hunused : (s.framed 8).lineCountsInUse = false :=
      (lineCountsInUse_eq_false_iff (s.framed 8)).2 ⟨hmap, hspares⟩
    exact ⟨fun hlow hhigh => hrun 1 _ (show configureInstalledLines v (s.framed 8) = _ from
      configured_set (s.framed 8) _ _ _ hs (decide_eq_true ⟨hlow, hhigh⟩) hunused),
      fun hhigh => hrun 2 _ (show configureSpareLines v (s.framed 8) = _ from
      configured_set (s.framed 8) _ _ _ hs (decide_eq_true hhigh) hunused)⟩
  · exact hrun 3 _ (show configureSpareThreshold v (s.framed 8) = _ from
      configured_set (s.framed 8) _ _ _ hs (decide_eq_true ⟨hlow, hhigh⟩) rfl)
  · exact hrun 4 _ (show configureTickShift v (s.framed 8) = _ from
      configured_set (s.framed 8) _ _ _ hs (decide_eq_true hhigh) rfl)
  · exact hrun 5 _ (show configureScrubInterval v (s.framed 8) = _ from
      configured_set (s.framed 8) _ _ _ hs (decide_eq_true hhigh) rfl)
  · exact hrun 6 _ (show configureDownstreamTimeout v (s.framed 8) = _ from
      configured_set (s.framed 8) _ _ _ hs (decide_eq_true hhigh) rfl)
  · have hset (hv : v.toNat ≤ 1) := hrun 7 _ (show configureHaltedPolicy v (s.framed 8) = _ from
      configured_set (s.framed 8) _ _ _ hs (decide_eq_true hv) rfl)
    refine ⟨fun hv => ?_, fun hv => ?_⟩
    · obtain ⟨d, hd⟩ := HeldStays.retestHeld (s := { s.framed 8 with
        cfg := { s.cfg with haltedPolicy := if v.toNat = 0 then .stall else .refuse } })
        ⟨hheld, fun p r _ => ⟨if_pos hv, by simp [State.framed, htt]⟩⟩ (by simp [State.framed, hs])
      refine ⟨d, ((hset (by omega)).trans (congrArg (fun t : State => Host.Outcome.next (t.result 0x10 .ok [])) hd)).trans ?_⟩
      rw [if_pos hv]
      rfl
    · have hne : ¬ v.toNat = 0 := by omega
      obtain ⟨d, hd⟩ := retestHeld_refused (s := { s.framed 8 with
        cfg := { s.cfg with haltedPolicy := if v.toNat = 0 then .stall else .refuse } })
        hheld htt (by simp [State.framed, hs]) (if_neg hne)
      refine ⟨d, ((hset (by omega)).trans (congrArg (fun t : State => Host.Outcome.next (t.result 0x10 .ok [])) hd)).trans ?_⟩
      rw [if_neg hne]
      rfl
  · exact hrun 8 _ (show configureRepairEnable v (s.framed 8) = _ from
      configured_set (s.framed 8) _ _ _ hs (decide_eq_true hhigh) rfl)
  · have hmask : v.setWidth 16 = BitVec.ofNat 16 v.toNat := by
      apply BitVec.eq_of_toNat_eq
      simp
    rw [← hmask]
    exact hrun 9 _ (show configureEventMask v (s.framed 8) = _ from
      configured_set (s.framed 8) _ _ _ hs (decide_eq_true hhigh) rfl)
  · exact hrun 10 _ (show configureAlertEnable v (s.framed 8) = _ from
      configured_set (s.framed 8) _ _ _ hs (decide_eq_true hhigh) rfl)

end Sys2Proof.Proofs
end

section
/-! PROOFS. The queue of commands, the cold reset and the state after it (R21, R39, R140, R145, R169), and the small
statements on the Event Queue and the alert line (R174, R176, R183). -/

-- One declaration after the other: side by side, the threads with their stacks outgrow the memory of the check.
set_option Elab.async false

namespace Sys2Proof.Machine

/-! ## What no command but a cold reset changes -/

/-- The queue of commands and RESET_N stay as they are. -/
def SameQueueAndPin (s t : State) : Prop := t.pending = s.pending ∧ t.resetPin = s.resetPin

/-- What a command other than COLD_RESET leaves: the queue, being out of reset, and in reset everything but what it put
out and what the ports hold. -/
structure Stepped (s t : State) : Prop where
  pending : t.pending = s.pending
  outOfReset : OutOfReset s → OutOfReset t
  inReset : s.resetPin.asserted = true → t = { s with out := t.out, ports := t.ports }

theorem Stepped.quiet (s : State) : Stepped s s.quiet := ⟨rfl, id, fun _ => rfl⟩

theorem Stepped.unlessReset (s : State) (act : State → State) (h : ∀ u, SameQueueAndPin u (act u)) :
    Stepped s (s.unlessReset act) := by
  unfold State.unlessReset
  split
  next => exact .quiet s
  next hout =>
    obtain ⟨hpending, hpin⟩ := h s.quiet
    exact ⟨hpending, fun _ => by rw [OutOfReset, hpin, ← Bool.not_eq_true]; exact hout, fun hin => absurd hin hout⟩

theorem Stepped.frameEnds (s : State) (n : Nat) (take : State → State) (h : ∀ u, SameQueueAndPin u (take u)) :
    Stepped s (s.frameEnds n take) := by
  unfold State.frameEnds
  split
  next => exact ⟨rfl, id, fun _ => rfl⟩
  next hout =>
    split
    next => exact ⟨rfl, fun _ => rfl, fun hin => absurd hin hout⟩
    next =>
      obtain ⟨hpending, hpin⟩ := h s.quiet
      exact ⟨hpending, fun _ => by rw [OutOfReset, hpin, ← Bool.not_eq_true]; exact hout, fun hin => absurd hin hout⟩

theorem configure_same (item : Byte) (v : BitVec 32) (s : State) : SameQueueAndPin s (configure item v s).state := by
  obtain ⟨t, ht, hstate⟩ := configure_effect item v s
  have hsame : SameQueueAndPin s t := by cases ht <;> exact ⟨rfl, rfl⟩
  rcases hstate with hstate | hstate
  · rwa [hstate]
  · rw [hstate]
    exact ⟨by simp [hsame.1], by simp [hsame.2]⟩

theorem settledBy_same (c : LinkCommand) (s : State) : SameQueueAndPin s (settledBy c s).state := by
  cases hread : c.isReading with
  | true =>
    rw [settledBy_state_of_isReading c s hread]
    exact ⟨rfl, rfl⟩
  | false =>
    cases c with
    | configure item v => exact configure_same item v s
    | start =>
      rcases start_state s with h | ⟨-, h⟩ <;> rw [settledBy, h] <;> simp [SameQueueAndPin]
    | stop => exact ⟨rfl, rfl⟩
    | restart => exact ⟨rfl, rfl⟩
    | loadMap home k =>
      rcases loadMap_state home k s with h | ⟨i, -, -, -, -, h⟩ <;> rw [settledBy, h] <;> exact ⟨rfl, rfl⟩
    | loadRetired k =>
      rcases loadRetired_state k s with h | ⟨-, -, h⟩ <;> rw [settledBy, h] <;> exact ⟨rfl, rfl⟩
    | requestSpare home =>
      rcases requestSpare_state home s with h | ⟨-, h⟩ <;> rw [settledBy, h] <;> simp [SameQueueAndPin]
    | takeEvent =>
      rw [settledBy, takeEvent_state]
      exact ⟨rfl, rfl⟩
    | clearCounters => exact ⟨rfl, rfl⟩
    | _ => cases hread

theorem runCommand_same (c : LinkCommand) (u : Bool) (s : State) : SameQueueAndPin s (runCommand c u s) := by
  by_cases hstop : c = .stop
  · subst hstop
    simp only [runCommand, stop]
    split
    · simp [SameQueueAndPin]
    · exact ⟨rfl, rfl⟩
  · by_cases hrestart : c = .restart
    · subst hrestart
      simp [SameQueueAndPin, runCommand]
    · rw [runCommand_eq_held c u s hstop hrestart]
      exact settledBy_same c s

theorem settleFrame_same (k : FrameKind) (s : State) : SameQueueAndPin s (settleFrame k s) := by
  cases hslot : s.link.slot.isExecuting with
  | true =>
    obtain ⟨d, b, hexec⟩ : ∃ d b, s.link.slot = .executing d b := by
      cases hl : s.link.slot with
      | executing d b => exact ⟨d, b, rfl⟩
      | _ => rw [hl] at hslot; cases hslot
    by_cases hk : k = .command .restart
    · rw [hk, settleFrame_restart s d b hexec]
      simp [SameQueueAndPin]
    · rw [settleFrame_ignored k s d b hexec hk]
      exact ⟨rfl, rfl⟩
  | false =>
    rw [settleFrame_taken k s hslot]
    cases k with
    | command c => exact runCommand_same c _ s
    | _ => exact ⟨rfl, rfl⟩

theorem Stepped.takeCommand (c : LinkCommand) (s : State) : Stepped s (Machine.takeCommand c s) :=
  .frameEnds s _ _ fun u => settleFrame_same _ (u.zeroMiso _)

theorem Stepped.takeFrame (bytes : List Byte) (s : State) : Stepped s (Machine.takeFrame bytes s) := by
  refine .frameEnds s _ _ fun u => ?_
  split
  · exact ⟨rfl, rfl⟩
  · simp [SameQueueAndPin]
  · exact settleFrame_same _ (u.zeroMiso _)

theorem Stepped.microsecond (s : State) : Stepped s s.microsecond := by
  refine .unlessReset s _ fun u => ?_
  simp only []
  split <;> simp [SameQueueAndPin]

theorem exec_presentedRequest_stepped (r : Request) (s : State) :
    ∃ t, exec (.presentedRequest r) s = .next t ∧ Stepped s t := by
  simp only [exec, execPresentedRequest]
  split
  next => exact ⟨_, rfl, .quiet s⟩
  next hnone =>
    split
    next hin =>
      refine ⟨_, rfl, by simp, fun hout => absurd (hin.symm.trans hout) nofun, fun _ => ?_⟩
      cases r.port <;> rfl
    next hout =>
      refine ⟨_, rfl, by simp, fun h => ?_, fun hin => absurd hin hout⟩
      simpa [OutOfReset] using h

theorem exec_stepped (c : Instr) (s : State) (hc : ∀ edge, c ≠ .coldReset edge) :
    ∃ t, exec c s = .next t ∧ Stepped s t := by
  cases c with
  | coldReset edge => exact absurd rfl (hc edge)
  | presentedRequest r => exact exec_presentedRequest_stepped r s
  | grant ready => exact ⟨_, rfl, .unlessReset s _ fun u => by simp [SameQueueAndPin]⟩
  | completion n status => exact ⟨_, rfl, .unlessReset s _ fun u => by simp [SameQueueAndPin]⟩
  | tick => exact ⟨_, rfl, .unlessReset s _ fun u => by simp [SameQueueAndPin]⟩
  | slotExpiry n => exact ⟨_, rfl, .unlessReset s _ fun u => by simp [SameQueueAndPin]⟩
  | countdownExpiry =>
    refine ⟨_, rfl, .unlessReset s _ fun u => ?_⟩
    split <;> simp [SameQueueAndPin]
  | take => exact ⟨_, rfl, .unlessReset s _ fun u => by simp [SameQueueAndPin]⟩
  | stopDrainComplete => exact ⟨_, rfl, .unlessReset s _ fun u => by simp [SameQueueAndPin]⟩
  | restartDrainComplete => exact ⟨_, rfl, .unlessReset s _ fun u => by simp [SameQueueAndPin]⟩
  | badCheck frame => exact ⟨_, rfl, .takeFrame frame s⟩
  | unknown frame => exact ⟨_, rfl, .takeFrame frame s⟩
  | overrun frame => exact ⟨_, rfl, .takeFrame frame s⟩
  | badArgumentLength frame => exact ⟨_, rfl, .takeFrame frame s⟩
  | resultFrame length =>
    refine ⟨_, rfl, .frameEnds s _ _ fun u => ?_⟩
    split <;> simp [SameQueueAndPin]
  | _ => exact ⟨_, rfl, .takeCommand _ s⟩

/-! ## The cold reset -/

theorem coldReset_pending (s : State) (edge : ResetEdge) : (s.coldReset edge).pending = s.pending := by
  cases edge with
  | whole frameOpen => simp [State.coldReset, State.endReset, State.atDefault]
  | assertion => rfl
  | release frameOpen =>
    simp only [State.coldReset]
    split
    · simp [State.endReset, State.atDefault]
    · rfl

/-- R169: the end of a reset leaves every block at its default and the presented requests presented. -/
theorem endReset_eq (s : State) (frameOpen : Bool) (h : HeldLaw s) :
    ∃ d, s.endReset frameOpen = { State.reset with
      resetPin := ⟨false, frameOpen⟩, ports := s.ports, draws := d, pending := s.pending } := by
  obtain ⟨d, hd⟩ := retestHeld_atDefault s ⟨false, frameOpen⟩ h
  exact ⟨d, hd⟩

theorem endReset_outOfReset (s : State) (frameOpen : Bool) : OutOfReset (s.endReset frameOpen) := by
  simp [OutOfReset, State.endReset, State.atDefault]

theorem ResetLaw.of_outOfReset {s : State} (h : OutOfReset s) : ResetLaw s := fun hin =>
  absurd (hin.symm.trans h) nofun

theorem ResetLaw.stepped {s t : State} (h : ResetLaw s) (ht : Stepped s t) : ResetLaw t := by
  cases hs : s.resetPin.asserted with
  | false => exact .of_outOfReset (ht.outOfReset hs)
  | true =>
    have hrest := ht.inReset hs
    have hdraws : t.draws = s.draws := (congrArg State.draws hrest :)
    intro _
    rw [hdraws, ht.pending]
    exact hrest.trans (congrArg (fun u : State => { u with out := t.out, ports := t.ports }) (h hs))

theorem ResetLaw.coldReset {s : State} (h : ResetLaw s) (edge : ResetEdge) : ResetLaw (s.coldReset edge) := by
  cases edge with
  | whole frameOpen => exact .of_outOfReset (endReset_outOfReset s frameOpen)
  | assertion => exact fun _ => rfl
  | release frameOpen =>
    simp only [State.coldReset]
    split
    · exact .of_outOfReset (endReset_outOfReset s frameOpen)
    · exact h.stepped (.quiet s)

theorem ResetLaw.step {s s' : State} (h : ResetLaw s) (hstep : Machine.step s = .next s') : ResetLaw s' := by
  unfold Machine.step at hstep
  split at hstep
  next =>
    cases hstep
    exact h.stepped (.microsecond s)
  next c rest _ =>
    have hrest : ResetLaw { s with pending := rest } := fun hin =>
      congrArg (fun u : State => { u with pending := rest }) (h hin)
    by_cases hc : ∃ edge, c = .coldReset edge
    · obtain ⟨edge, rfl⟩ := hc
      cases hstep
      exact hrest.coldReset edge
    · obtain ⟨t, ht, hstepped⟩ := exec_stepped c { s with pending := rest } fun edge he => hc ⟨edge, he⟩
      rw [ht] at hstep
      cases hstep
      exact hrest.stepped hstepped

theorem exec_inReset (s : State) (h : s.resetPin.asserted = true) (n : SlotNumber) (status : CompletionStatus)
    (ready : Bool) :
    ∀ i ∈ ([.grant ready, .completion n status, .tick, .slotExpiry n, .countdownExpiry, .take,
        .stopDrainComplete, .restartDrainComplete] : List Instr), exec i s = .next s.quiet := by
  have hkept (act : State → State) : (.next (s.unlessReset act) : Host.Outcome State Fault Refusal) = .next s.quiet :=
    congrArg _ (s.unlessReset_asserted act h)
  simp only [List.forall_mem_cons, List.not_mem_nil, false_implies, implies_true, and_true]
  exact ⟨hkept _, hkept _, hkept _, hkept _, hkept _, hkept _, hkept _, hkept _⟩

end Sys2Proof.Machine

namespace Sys2Proof.Proofs

open Sys2Proof.Machine

/-- Settles O2: a cold reset keeps the queue, and so does every other command. -/
theorem everyCommandAnswersNextAndKeepsTheQueue : Obligations.EveryCommandAnswersNextAndKeepsTheQueue := by
  intro c s
  by_cases hc : ∃ edge, c = .coldReset edge
  · obtain ⟨edge, rfl⟩ := hc
    exact ⟨_, rfl, coldReset_pending s edge⟩
  · obtain ⟨t, ht, hstepped⟩ := exec_stepped c s fun edge he => hc ⟨edge, he⟩
    exact ⟨t, ht, hstepped.pending⟩

/-- Settles O3: by the edge of RESET_N, and by what a bridge in reset leaves undone. -/
theorem coldResetReturnsEveryBlockToItsDefault : Obligations.ColdResetReturnsEveryBlockToItsDefault := by
  refine ⟨fun s frameOpen h => ?_, fun s => rfl, fun s frameOpen hin h => ?_, fun s frameOpen hout => ?_,
    fun s hin => ⟨exec_inReset s hin, fun r hr => ?_, fun hempty => ?_⟩, ResetLaw.of_outOfReset rfl,
    fun s s' h hstep => h.step hstep, rfl, rfl, rfl, rfl, rfl, rfl, rfl, rfl, rfl, fun i => ?_, rfl, rfl, fun n => ?_,
    rfl, rfl, rfl, rfl, rfl⟩
  · obtain ⟨d, hd⟩ := endReset_eq s frameOpen h
    exact ⟨d, congrArg _ hd⟩
  · obtain ⟨d, hd⟩ := endReset_eq s frameOpen h
    exact ⟨d, congrArg _ ((if_pos hin).trans hd)⟩
  · exact congrArg _ (if_neg (by simp [hout]))
  · simp [exec, execPresentedRequest, hr, hin]
  · unfold step
    rw [hempty]
    exact congrArg _ (s.unlessReset_asserted _ hin)
  · simp [State.reset]
  · simp [State.reset]

/-- Settles O1: this is how a step is defined. -/
theorem stepTakesTheFrontCommand : Obligations.StepTakesTheFrontCommand := fun _ _ _ => rfl

/-- Settles O4: each law holds of the blocks at their defaults. -/
theorem resetMeetsEveryLaw : Obligations.ResetMeetsEveryLaw := by
  obtain ⟨hcapacity, hrepair, hsuspect, hsequence, hcfg, hheld⟩ := (collections_iff _).1 Collections.reset
  have hmap : MapAgreement .reset := mapAgreement_of_unused _ (by simp [State.reset]) (by simp [State.reset]) rfl rfl rfl
  obtain ⟨hmapLaw, hsparing⟩ := (mapAgreement_iff _).1 hmap
  have hservice : ServiceLaw .reset := (serviceAgreement_iff _).1 (ServiceAgreement.atDefault .reset ⟨false, false⟩)
  have hexclusion : ExclusionLaw .reset := fun m n _ => by simp [State.reset, Slot.compatible]
  exact ⟨hcfg, hcapacity, OrderLaw.atDefault .reset ⟨false, false⟩, PhaseLaw.of_nil rfl, hexclusion, hrepair, hsuspect,
    hsparing, hsequence, hmapLaw, hservice, hheld, (drainLaw_iff_of_idle _ rfl).2 ⟨nofun, nofun⟩⟩

/-- Settles O43: by the mask, and by the room in the queue. -/
theorem eventsAreMaskedNumberedAndStored : Obligations.EventsAreMaskedNumberedAndStored := by
  intro q mask e
  refine ⟨fun hmask => ?_, fun hmask hroom => ?_, fun hmask hfull => ?_⟩
  · simp [EventQueue.offer, hmask]
  · simp [EventQueue.offer, EventQueue.pass, hmask, Config.eventCapacity, hroom]
  · simp [EventQueue.offer, EventQueue.pass, hmask, Config.eventCapacity, Nat.not_lt.2 hfull]

/-- Settles O44: by the definition of the alert line. -/
theorem alertFollowsTheQueue : Obligations.AlertFollowsTheQueue := by
  intro s
  simp [State.alertAsserted]

end Sys2Proof.Proofs
end

section
/-! PROOFS. The drains of STOP and RESTART (R154, R161, R162, R164, R166, R167). -/

-- One declaration after the other: side by side, the threads with their stacks outgrow the memory of the check.
set_option Elab.async false

namespace Sys2Proof.Machine

theorem State.unlessReset_next (s : State) (act : State → State) (h : OutOfReset s) (t : State) (ht : act s.quiet = t) :
    (.next (s.unlessReset act) : Host.Outcome State Fault Refusal) = .next t := by
  rw [s.unlessReset_out act h, ht]

/-! ## The ends of the drains -/

theorem completeStopIfDue_of_due (s : State) (h : s.stopDrainDue = true) : s.completeStopIfDue = s.completeStop :=
  if_pos h

theorem completeStopIfDue_of_not_due (s : State) (h : ¬ s.stopDrainDue = true) : s.completeStopIfDue = s := if_neg h

theorem completeRestartIfDue_of_due (s : State) (h : s.restartDrainDue = true) :
    s.completeRestartIfDue = s.completeRestart := if_pos h

theorem completeRestartIfDue_of_not_due (s : State) (h : ¬ s.restartDrainDue = true) : s.completeRestartIfDue = s :=
  if_neg h

/-- R162: the completion of STOP, when the held requests stay held. -/
theorem completeStop_eq (s : State) (b : Bool) (hslot : s.link.slot = .executing .stop b) (hheld : HeldStays s) :
    ∃ d, s.completeStop = { s with
      service := .halted, draws := d, link := ⟨.ready ⟨0x21, .ok, [], b⟩, s.link.overrun⟩ } := by
  unfold State.completeStop
  rw [drainResult_link { s with service := .halted } .stop _ b hslot]
  exact HeldStays.retestHeld (s := State.hold { s with service := .halted } LinkCommand.stop.code .ok [] b) hheld nofun

/-- R166: the completion of RESTART, when the held requests stay held. -/
theorem completeRestart_eq (s : State) (b : Bool) (hslot : s.link.slot = .executing .restart b) (hheld : HeldStays s) :
    ∃ d, s.completeRestart = { s with
      service := .halted, draws := d, lastReset := .restart, sparing := [], suspects := []
      scrub := { s.scrub with cursor := 0 }
      events := s.events.offer s.cfg.eventMask { kind := .restarted, origin := .service }
      link := ⟨.ready ⟨0x22, .ok, [], b⟩, s.link.overrun⟩ } := by
  let t : State := State.offer { s with
    service := .halted, sparing := [], suspects := [], scrub := { s.scrub with cursor := 0 }, lastReset := .restart }
    { kind := .restarted, origin := .service }
  have heq : s.completeRestart = (t.hold LinkCommand.restart.code .ok [] b).retestHeld :=
    congrArg State.retestHeld (drainResult_link t .restart LinkCommand.restart.code b hslot)
  rw [heq]
  exact HeldStays.retestHeld (s := t.hold LinkCommand.restart.code .ok [] b) hheld nofun

/-! ## STOP -/

/-- R154, R161: STOPPING, with a WAITING scrub turned OFF. -/
def State.stopping (s : State) : State :=
  { s with
    service := .stopping
    scrub := { s.scrub with state := if s.scrub.state = .waiting then .off else s.scrub.state } }

theorem stopScrub_stopping (s : State) : State.stopScrub { s with service := .stopping } = s.stopping := by
  unfold State.stopScrub State.stopping
  split_ifs <;> rfl

/-- R161: STOP, when the held requests stay held: the drain completes at once, or the slot is EXECUTING. -/
theorem stopAction_eq (s : State) (b : Bool) (hheld : HeldStays s) :
    ∃ d, s.stopAction b =
      if s.tt = [] ∧ s.repairs = ⟨[], []⟩ ∧ s.engine = .idle ∧ s.scrub.read = none then
        { s.stopping with service := .halted, draws := d, link := ⟨.ready ⟨0x21, .ok, [], b⟩, s.link.overrun⟩ }
      else { s.stopping with draws := d, link := ⟨.executing .stop b, s.link.overrun⟩ } := by
  obtain ⟨d, hd⟩ := HeldStays.retestHeld (s := s.stopping.execute .stop b) hheld nofun
  unfold State.stopAction
  rw [stopScrub_stopping, hd]
  by_cases hdrained : s.tt = [] ∧ s.repairs = ⟨[], []⟩ ∧ s.engine = .idle ∧ s.scrub.read = none
  · obtain ⟨d', hd'⟩ := completeStop_eq { s.stopping.execute .stop b with draws := d } b rfl hheld
    refine ⟨d', ?_⟩
    rw [completeStopIfDue_of_due, if_pos hdrained]
    · exact hd'
    · exact (stopDrainDue_iff _).2 ⟨rfl, hdrained⟩
  · refine ⟨d, ?_⟩
    rw [completeStopIfDue_of_not_due, if_neg hdrained]
    · rfl
    · exact fun hdue => hdrained ((stopDrainDue_iff _).1 hdue).2

/-! ## RESTART -/

theorem freeOrder_perm {α : Type} (l : List α) : ∀ n : Nat, (freeOrder n l).Perm l := by
  induction l with
  | nil => exact fun _ => .refl _
  | cons a l ih =>
    intro n
    cases l with
    | nil => exact .refl _
    | cons b l =>
      rw [freeOrder]
      exact (List.perm_insertIdx a _ (Nat.le_of_lt_succ (Nat.mod_lt _ (Nat.succ_pos _)))).trans ((ih (n + 1)).cons a)

theorem beginRestart_out (s : State) :
    s.beginRestart.out = { s.out with
      u0 := s.out.u0 ++ freeOrder s.draws (s.abortedResponses .u0)
      u1 := s.out.u1 ++ freeOrder (s.draws + s.tt.length) (s.abortedResponses .u1) } := by
  simp [State.beginRestart]
  rfl

/-- R135, R155: a PENDING read that is removed takes its pass-over count along. -/
theorem abandonScrub_memory (s : State) :
    s.abandonScrub.memory.slots = s.memory.slots ∧ s.abandonScrub.memory.mark = s.memory.mark ∧
    (∀ r, s.scrub.read = some r → r.granted = none → s.abandonScrub.memory.passOver = 0) ∧
    ((∀ r, s.scrub.read = some r → r.granted ≠ none) → s.abandonScrub.memory.passOver = s.memory.passOver) := by
  unfold State.abandonScrub
  split <;> simp_all

theorem beginRestart_memory (s : State) :
    s.beginRestart.memory.slots = s.memory.slots ∧ s.beginRestart.memory.mark = s.memory.mark ∧
    (∀ r, s.scrub.read = some r → r.granted = none → s.beginRestart.memory.passOver = 0) ∧
    ((∀ r, s.scrub.read = some r → r.granted ≠ none) → s.beginRestart.memory.passOver = s.memory.passOver) := by
  have habandoned := abandonScrub_memory (State.abandonRepairs (State.abandonEntries { s with service := .aborting }))
  simpa [State.beginRestart] using habandoned

/-- R94: the entry as it was before the take. -/
theorem Migration.reverted_of_home (m : Migration) (h : m.old = .home) : m.reverted = .free := by
  simp [Migration.reverted, h]

theorem Migration.reverted_of_spare (m : Migration) (a : Nat) (h : m.old = .spare a) : m.reverted = .active m.home a := by
  simp [Migration.reverted, h]

/-- R124: the map and the pool when RESTART leaves the migration as it is. -/
theorem beginRestart_map_kept (s : State) (h : s.engine = .idle ∨ s.engine.issued? ≠ none) :
    s.beginRestart.engine = s.engine ∧ s.beginRestart.map = s.map ∧ s.beginRestart.spares = s.spares := by
  have hsettled (t : State) (ht : t.engine = s.engine) : t.settleMigration = t := by
    unfold State.settleMigration
    rw [ht]
    cases hengine : s.engine with
    | idle => rfl
    | quiesce m => simp [hengine, Engine.issued?] at h
    | copyRead m slot => cases slot <;> simp [hengine, Engine.issued?] at h ⊢
    | copyWrite m slot content => cases slot <;> simp [hengine, Engine.issued?] at h ⊢
  unfold State.beginRestart
  rw [hsettled _ (by simp)]
  simp

/-- R124: the map and the pool when RESTART reverts the migration. -/
theorem beginRestart_map_reverted (s : State) (m : Migration) (hm : s.engine.migration? = some m)
    (hissued : s.engine.issued? = none) :
    s.beginRestart.engine = .idle ∧ s.beginRestart.map = s.map.set m.entry.1 m.reverted m.entry.2 ∧
      s.beginRestart.spares = s.spares.set m.new .available := by
  have hsettled (t : State) (ht : t.engine = s.engine) : t.settleMigration = t.revert m .available := by
    unfold State.settleMigration
    rw [ht]
    cases hengine : s.engine with
    | idle => simp [hengine, Engine.migration?] at hm
    | quiesce m' => simp_all [Engine.migration?]
    | copyRead m' slot => cases slot <;> simp_all [Engine.migration?, Engine.issued?]
    | copyWrite m' slot content => cases slot <;> simp_all [Engine.migration?, Engine.issued?]
  unfold State.beginRestart
  rw [hsettled _ (by simp)]
  simp [State.revert]

theorem HeldStays.beginRestart {s : State} (h : HeldStays s) : HeldStays s.beginRestart := by
  obtain ⟨hlaw, hstays⟩ := h
  refine ⟨by simpa [HeldLaw] using hlaw, fun p r hr => ?_⟩
  have hheld : s.heldAt p = some r := by
    rw [← hr]
    cases p <;> simp [State.heldAt]
  obtain ⟨hpolicy, hentry⟩ := hstays p r hheld
  refine ⟨by simpa using hpolicy, fun e he => hentry e ?_⟩
  rw [beginRestart_tt] at he
  exact (List.mem_filter.1 he).1

/-- R164, R166, R167: RESTART, when the held requests stay held: the drain completes at once, or the slot is
EXECUTING. -/
theorem restartAction_eq (s : State) (b : Bool) (hheld : HeldStays s) :
    ∃ d, s.restartAction b =
      if s.beginRestart.tt = [] ∧ (∀ n : SlotNumber, s.beginRestart.memory.slots[n].isBusy = false) ∧
          s.beginRestart.engine = .idle then
        { s.beginRestart with
          service := .halted, draws := d, lastReset := .restart, sparing := [], suspects := []
          scrub := { s.beginRestart.scrub with cursor := 0 }
          events := s.beginRestart.events.offer s.beginRestart.cfg.eventMask { kind := .restarted, origin := .service }
          link := ⟨.ready ⟨0x22, .ok, [], b⟩, s.beginRestart.link.overrun⟩ }
      else { s.beginRestart with draws := d, link := ⟨.executing .restart b, s.beginRestart.link.overrun⟩ } := by
  obtain ⟨d, hd⟩ := HeldStays.retestHeld (s := s.beginRestart.execute .restart b) hheld.beginRestart (by simp)
  unfold State.restartAction
  rw [hd]
  split_ifs with hdrained
  · obtain ⟨d', hd'⟩ := completeRestart_eq { s.beginRestart.execute .restart b with draws := d } b rfl
      hheld.beginRestart
    refine ⟨d', ?_⟩
    rw [completeRestartIfDue_of_due]
    · exact hd'
    · exact (restartDrainDue_iff _).2 ⟨beginRestart_service s, hdrained⟩
  · refine ⟨d, ?_⟩
    rw [completeRestartIfDue_of_not_due]
    · rfl
    · exact fun hdue => hdrained ((restartDrainDue_iff _).1 hdue).2

/-- R189, R192: RESTART is taken unless a RESTART is executing. -/
theorem takeCommand_restart (s : State) (h : TakesFrames s) (hslot : ∀ b, s.link.slot ≠ .executing .restart b) :
    takeCommand .restart s = (s.framed 3).restartAction (s.link.slot.isReady || s.link.slot.isExecuting) := by
  cases hl : s.link.slot with
  | executing d b =>
    cases d with
    | restart => exact absurd hl (hslot b)
    | stop =>
      unfold takeCommand
      rw [s.frameEnds_taken _ _ h]
      exact settleFrame_restart (s.framed 3) .stop b hl
  | empty =>
    rw [takeCommand_executed .restart s ⟨h, by rw [hl]; rfl⟩, hl]
    rfl
  | ready r =>
    rw [takeCommand_executed .restart s ⟨h, by rw [hl]; rfl⟩, hl]
    rfl

end Sys2Proof.Machine

namespace Sys2Proof.Proofs

open Sys2Proof.Machine

/-- Settles O41: by the conditions of each drain. -/
theorem drainsComplete : Obligations.DrainsComplete := by
  intro s hout
  refine ⟨fun hnot => ?_, fun b hs htt hrepairs hengine hread hheld hslot => ?_, fun hnot => ?_,
    fun b hs htt hbusy hengine hheld hslot => ?_⟩
  · refine s.unlessReset_next _ hout _ (if_neg fun hdue => hnot ?_)
    exact (stopDrainDue_iff s.quiet).1 hdue
  · obtain ⟨d, hd⟩ := completeStop_eq s.quiet b hslot hheld
    refine ⟨d, s.unlessReset_next _ hout _ ((if_pos ?_).trans hd)⟩
    exact (stopDrainDue_iff s.quiet).2 ⟨hs, htt, hrepairs, hengine, hread⟩
  · refine s.unlessReset_next _ hout _ (if_neg fun hdue => hnot ?_)
    exact (restartDrainDue_iff s.quiet).1 hdue
  · obtain ⟨d, hd⟩ := completeRestart_eq s.quiet b hslot hheld
    refine ⟨d, s.unlessReset_next _ hout _ ((if_pos ?_).trans hd)⟩
    exact (restartDrainDue_iff s.quiet).2 ⟨hs, htt, hbusy, hengine⟩

/-- Settles O39: by the service state, and by the four conditions. -/
theorem stopDrainsTheBridge : Obligations.StopDrainsTheBridge := by
  intro s h
  have htaken : exec .stop s = .next (stop s.link.slot.isReady (s.framed 3)) :=
    congrArg _ (takeCommand_executed .stop s h)
  refine ⟨fun hs => ?_, fun hs hheld => ?_⟩
  · rw [htaken]
    exact congrArg _ (if_neg hs)
  · obtain ⟨d, hd⟩ := stopAction_eq (s.framed 3) s.link.slot.isReady hheld
    have hstop : exec .stop s = .next ((s.framed 3).stopAction s.link.slot.isReady) :=
      htaken.trans (congrArg _ (if_pos hs))
    refine ⟨fun hdrained => ⟨d, ?_⟩, fun hnot => ⟨d, ?_⟩⟩
    · rw [hstop, hd]
      exact congrArg _ (if_pos hdrained)
    · rw [hstop, hd]
      exact congrArg _ (if_neg hnot)

/-- Settles O40: what RESTART abandons does not depend on whether its drain completes at once. -/
theorem restartAbandonsWhatIsNotIssued : Obligations.RestartAbandonsWhatIsNotIssued := by
  intro s htakes hslot hheld
  obtain ⟨d, hd⟩ := restartAction_eq (s.framed 3) (s.link.slot.isReady || s.link.slot.isExecuting) hheld
  have hexec := congrArg (Host.Outcome.next (φ := Fault) (ρ := Refusal))
    ((takeCommand_restart s htakes hslot).trans hd)
  have hout := beginRestart_out (s.framed 3)
  have htt := beginRestart_tt (s.framed 3)
  have hrepairs := beginRestart_repairs (s.framed 3)
  have hscrub := beginRestart_scrub (s.framed 3)
  obtain ⟨hslots, hmark, hpending, hgranted⟩ := beginRestart_memory (s.framed 3)
  have hu0 := freeOrder_perm ((s.framed 3).abortedResponses .u0) (s.framed 3).draws
  have hu1 := freeOrder_perm ((s.framed 3).abortedResponses .u1) ((s.framed 3).draws + (s.framed 3).tt.length)
  have hsame : SameButPhases (s.framed 3).beginRestart.tt (s.tt.filter fun e => e.isIssued) := by
    rw [htt]
    rfl
  have hmigration (m : Migration) (hm : s.engine.migration? = some m) (hissued : s.engine.issued? = none) :
      (m.old = .home → m.reverted = .free) ∧ (∀ a, m.old = .spare a → m.reverted = .active m.home a) ∧
      (s.framed 3).beginRestart.engine = .idle ∧
      (s.framed 3).beginRestart.map = s.map.set m.entry.1 m.reverted m.entry.2 ∧
      (s.framed 3).beginRestart.spares = s.spares.set m.new .available :=
    ⟨m.reverted_of_home, m.reverted_of_spare, beginRestart_map_reverted (s.framed 3) m hm hissued⟩
  have hkept := beginRestart_map_kept (s.framed 3)
  have hbusy : (∀ n : SlotNumber, (s.framed 3).beginRestart.memory.slots[n].isBusy = false) ↔
      ∀ n : SlotNumber, s.memory.slots[n].isBusy = false := by
    rw [hslots]
    rfl
  obtain ⟨hcfg, hlast, hports, hnext, hsuspects, hsparing, hmicroseconds, hevents, hcounters, hlink, hpin, -⟩ :=
    State.beginRestart_frame (s.framed 3)
  have hfu0 : (s.framed 3).beginRestart.out.u0.Perm ((s.framed 3).abortedResponses .u0) := by
    rw [hout]
    exact hu0
  have hfu1 : (s.framed 3).beginRestart.out.u1.Perm ((s.framed 3).abortedResponses .u1) := by
    rw [hout]
    exact hu1
  have hfmemory : (s.framed 3).beginRestart.out.memory = [] := by rw [hout]; rfl
  have hfmiso : (s.framed 3).beginRestart.out.miso = List.replicate 3 0x00 := by rw [hout]; rfl
  have hstate : (s.framed 3).beginRestart.scrub.state = .off := by rw [hscrub]
  have hread : (s.framed 3).beginRestart.scrub.read = s.scrub.read.filter fun r => r.granted.isSome := by
    rw [hscrub]
    rfl
  have hcountdown : (s.framed 3).beginRestart.scrub.countdown = s.scrub.countdown := by rw [hscrub]; rfl
  have hcursor : (s.framed 3).beginRestart.scrub.cursor = s.scrub.cursor := by rw [hscrub]; rfl
  by_cases hdrained : (s.framed 3).beginRestart.tt = [] ∧ (∀ n : SlotNumber, s.memory.slots[n].isBusy = false) ∧
      (s.framed 3).beginRestart.engine = .idle
  · obtain ⟨hnil, hfree, hidle⟩ := hdrained
    rw [if_pos ⟨hnil, hbusy.2 hfree, hidle⟩] at hexec
    exact ⟨_, hexec, hfu0, hfu1, hfmemory, hfmiso, hsame, hrepairs, hstate, hread, hcountdown, hpending, hgranted,
      hslots, hkept, hmigration, .inl ⟨⟨hnil, hfree, hidle⟩, rfl, rfl, rfl, rfl, rfl, by rw [hevents, hcfg]; rfl,
      by rw [hlink]; rfl⟩, hcfg, hcounters, hmicroseconds, hports, hnext, hmark, hpin⟩
  · rw [if_neg fun hdone => hdrained ⟨hdone.1, hbusy.1 hdone.2.1, hdone.2.2⟩] at hexec
    exact ⟨_, hexec, hfu0, hfu1, hfmemory, hfmiso, hsame, hrepairs, hstate, hread, hcountdown, hpending, hgranted,
      hslots, hkept, hmigration, .inr ⟨hdrained, beginRestart_service _, hlast, hsparing, hsuspects, hcursor, hevents,
      by rw [hlink]; rfl⟩, hcfg, hcounters, hmicroseconds, hports, hnext, hmark, hpin⟩

end Sys2Proof.Proofs
end

section
/-! PROOFS. START (R160, R198): the held requests and the take of a bridge that begins to run. -/

-- One declaration after the other: side by side, the threads with their stacks outgrow the memory of the check.
set_option Elab.async false

namespace Sys2Proof.Machine

/-! ## What a take and a presented request do does not depend on what the last command put out -/

theorem quiesceEnd_of_quiesce (s : State) (m : Migration) (h : s.engine = .quiesce m) :
    s.quiesceEnd = if s.lineBusy m.home then s else { s with engine := .copyRead m none } := by
  simp only [State.quiesceEnd, h]

theorem quiesceEnd_of_not_quiesce (s : State) (h : ∀ m, s.engine ≠ .quiesce m) : s.quiesceEnd = s := by
  unfold State.quiesceEnd
  split
  next m hm => exact absurd hm (h m)
  all_goals rfl

/-- The same bridge, having put out something else. -/
def State.withOut (s : State) (o : Outputs) : State := { s with out := o }

theorem quiesceEnd_withOut (s : State) (o : Outputs) :
    (s.withOut o).quiesceEnd = s.quiesceEnd.withOut o := by
  by_cases h : ∃ m, s.engine = .quiesce m
  · obtain ⟨m, hm⟩ := h
    rw [quiesceEnd_of_quiesce s m hm, quiesceEnd_of_quiesce (s.withOut o) m hm,
      show (s.withOut o).lineBusy m.home = s.lineBusy m.home from rfl]
    split_ifs <;> rfl
  · rw [quiesceEnd_of_not_quiesce s fun m hm => h ⟨m, hm⟩, quiesceEnd_of_not_quiesce (s.withOut o) fun m hm => h ⟨m, hm⟩]

theorem takeWithSpare_withOut (s : State) (h : Nat) (i : EntryNumber) (old : OldTarget) (n : Nat) (o : Outputs) :
    (s.withOut o).takeWithSpare h i old n = (s.takeWithSpare h i old n).withOut o := by
  unfold State.takeWithSpare
  exact congrArg State.relook (quiesceEnd_withOut { (s.setSpare n .allocated).setMap i (.moving h old n) with
    repairs := { s.repairs with queue := s.repairs.queue.filter fun r => !(r.home == h) }
    engine := .quiesce ⟨h, i, old, n⟩ } o)

/-! ### The head request of the Sparing Queue (R108 to R110) -/

section
variable (s : State) (r : SparingRequest) (rest : List SparingRequest) (h : s.sparing = r :: rest)
include h

theorem takeHead_noSpare (hn : s.lowestAvailable = none) :
    s.takeHead = State.noSpare { s with sparing := rest } r := by
  have hn' : ({ s with sparing := rest } : State).lowestAvailable = none := hn
  simp only [State.takeHead, h, hn']

theorem takeHead_noEntry (n : Nat) (hn : s.lowestAvailable = some n) (he : s.takeEntry r.home = none) :
    s.takeHead = { s with sparing := rest } := by
  have hn' : ({ s with sparing := rest } : State).lowestAvailable = some n := hn
  have he' : ({ s with sparing := rest } : State).takeEntry r.home = none := he
  simp only [State.takeHead, h, hn', he']

theorem takeHead_taken (n : Nat) (i : EntryNumber) (old : OldTarget) (hn : s.lowestAvailable = some n)
    (he : s.takeEntry r.home = some (i, old)) :
    s.takeHead = State.takeWithSpare { s with sparing := rest } r.home i old n := by
  have hn' : ({ s with sparing := rest } : State).lowestAvailable = some n := hn
  have he' : ({ s with sparing := rest } : State).takeEntry r.home = some (i, old) := he
  simp only [State.takeHead, h, hn', he']

end

theorem takeHead_withOut (s : State) (o : Outputs) :
    (s.withOut o).takeHead = s.takeHead.withOut o := by
  cases h : s.sparing with
  | nil =>
    have h' : (s.withOut o).sparing = [] := h
    simp only [State.takeHead, h, h']
  | cons r rest =>
    cases hn : s.lowestAvailable with
    | none =>
      rw [takeHead_noSpare s r rest h hn, takeHead_noSpare (s.withOut o) r rest h hn]
      rfl
    | some n =>
      cases he : s.takeEntry r.home with
      | none =>
        rw [takeHead_noEntry s r rest h n hn he, takeHead_noEntry (s.withOut o) r rest h n hn he]
        rfl
      | some x =>
        rw [takeHead_taken s r rest h n x.1 x.2 hn he, takeHead_taken (s.withOut o) r rest h n x.1 x.2 hn he]
        exact takeWithSpare_withOut { s with sparing := rest } r.home x.1 x.2 n o

theorem takeIfDue_withOut (s : State) (o : Outputs) :
    (s.withOut o).takeIfDue = s.takeIfDue.withOut o := by
  unfold State.takeIfDue
  rw [show (s.withOut o).takeDue = s.takeDue from rfl, takeHead_withOut]
  split_ifs <;> rfl

/-- The ports without the request of one of them. -/
def Ports.clear (p : Ports) : Port → Ports
  | .u0 => { p with heldU0 := none }
  | .u1 => { p with heldU1 := none }

/-- What is put out after what stood there: responses only. -/
def Outputs.andResponses (o x : Outputs) : Outputs := { o with u0 := o.u0 ++ x.u0, u1 := o.u1 ++ x.u1 }

/-- What a COMMAND frame of `n` bytes puts out by itself (R186). -/
def frameOutputs (n : Nat) : Outputs := ⟨[], [], [], List.replicate n 0x00⟩

theorem andResponses_of_frame (n : Nat) (x : Outputs) (h : x.memory = []) :
    (frameOutputs n).andResponses x = { x with miso := List.replicate n 0x00 } := by
  rw [Outputs.andResponses, h]
  rfl

theorem judge_ne_hold (s : State) (r : Request) (h : s.service = .running) : s.judge r ≠ .hold := by
  unfold State.judge
  rw [h]
  split_ifs <;> simp_all

/-- The same bridge with other requests held. -/
def State.withPorts (s : State) (p : Ports) : State := { s with ports := p }

/-- R21: in RUNNING the tests do not look at what the ports hold, nor at what was put out; a request ceases to be
presented. -/
theorem present_running (s : State) (r : Request) (p : Ports) (o : Outputs) (h : s.service = .running) :
    ((s.withPorts p).withOut o).present r =
      ((((s.withPorts ⟨none, none⟩).withOut .none).present r).withPorts (p.clear r.port)).withOut
        (o.andResponses (((s.withPorts ⟨none, none⟩).withOut .none).present r).out) := by
  have hjudge (p : Ports) (o : Outputs) : ((s.withPorts p).withOut o).judge r = s.judge r := rfl
  unfold State.present
  simp only [hjudge]
  obtain ⟨port, tag, address, length, op⟩ := r
  cases hj : s.judge ⟨port, tag, address, length, op⟩ with
  | hold => exact absurd hj (judge_ne_hold s _ h)
  | _ =>
    cases port <;>
    simp [State.withPorts, State.withOut, State.setHeld, State.offer, State.respond, State.accept, Ports.clear,
      Outputs.andResponses, Outputs.none] <;>
    rfl

/-- What a presented request leaves, in RUNNING, of the ports and of the outputs to the memory. -/
theorem present_running_left (s : State) (r : Request) (h : s.service = .running) (hports : s.ports = ⟨none, none⟩) :
    (s.present r).ports = ⟨none, none⟩ ∧ (s.present r).out.memory = s.out.memory := by
  unfold State.present
  cases hj : s.judge r with
  | hold => exact absurd hj (judge_ne_hold s _ h)
  | _ => cases hport : r.port <;> simp [State.setHeld, State.offer, State.respond, State.accept, hports]

theorem State.withPorts_of_none (s : State) (h : s.ports = ⟨none, none⟩) : s.withPorts ⟨none, none⟩ = s := by
  rw [← h]
  rfl

/-- What PRESENTED_REQUEST does, in RUNNING, at a port that holds none is what the tests do to a held request. -/
structure Presented (s : State) (r : Request) (u : State) : Prop where
  outOfReset : OutOfReset u
  running : u.service = .running
  ports : u.ports = ⟨none, none⟩
  memory : u.out.memory = []
  present (p : Ports) (o : Outputs) :
    ((s.withPorts p).withOut o).present r = (u.withPorts (p.clear r.port)).withOut (o.andResponses u.out)

theorem presented_of_exec (s : State) (r : Request) (u : State) (hout : OutOfReset s) (hs : s.service = .running)
    (hu : exec (.presentedRequest r) (s.withPorts ⟨none, none⟩) = .next u) : Presented s r u := by
  have hunheld : (s.withPorts ⟨none, none⟩).heldAt r.port = none := by cases r.port <;> rfl
  rw [exec_presentedRequest_unheld (s.withPorts ⟨none, none⟩) r hout hunheld] at hu
  replace hu : ((s.withPorts ⟨none, none⟩).withOut .none).present r = u := Host.Outcome.next.inj hu
  obtain ⟨hports, hmemory⟩ := present_running_left ((s.withPorts ⟨none, none⟩).withOut .none) r hs rfl
  have hframe := State.present_frame ((s.withPorts ⟨none, none⟩).withOut .none) r
  have hpresent (p : Ports) (o : Outputs) := present_running s r p o hs
  simp only [hu] at hports hmemory hframe hpresent
  obtain ⟨-, hservice, -, -, -, -, -, -, -, -, -, -, -, -, hpin, -⟩ := hframe
  exact ⟨by rw [OutOfReset, hpin]; exact hout, hservice.trans hs, hports, hmemory, hpresent⟩

theorem State.retest_of_held (s : State) (p : Port) (r : Request) (h : s.heldAt p = some r) (hport : r.port = p) :
    s.retest p = s.present r := by
  subst hport
  simp [State.retest, h]

theorem exec_take (s : State) (h : OutOfReset s) : exec .take s = .next s.quiet.takeIfDue :=
  s.unlessReset_next _ h _ rfl

theorem retestHeld_of_u0 (s : State) (r : Request) (h : s.ports = ⟨some r, none⟩) (hport : r.port = .u0) :
    s.retestHeld = s.present r := by
  simp only [State.retestHeld, h]
  exact s.retest_of_held .u0 r (by simp [State.heldAt, h]) hport

theorem retestHeld_of_u1 (s : State) (r : Request) (h : s.ports = ⟨none, some r⟩) (hport : r.port = .u1) :
    s.retestHeld = s.present r := by
  simp only [State.retestHeld, h]
  exact s.retest_of_held .u1 r (by simp [State.heldAt, h]) hport

/-- The same bridge after another draw. -/
def State.drawn (s : State) : State := { s with draws := s.draws + 1 }

/-- R21: both held requests are tested, in the order that is drawn. -/
theorem retestHeld_of_both (s : State) (r₀ r₁ : Request) (h : s.ports = ⟨some r₀, some r₁⟩) (hport₀ : r₀.port = .u0)
    (hport₁ : r₁.port = .u1) (hs : s.service = .running) :
    (Config.freeFirstPort s.draws = .u0 → s.retestHeld = (s.drawn.present r₀).present r₁) ∧
      (Config.freeFirstPort s.draws = .u1 → s.retestHeld = (s.drawn.present r₁).present r₀) := by
  have hretest : s.retestHeld =
      match Config.freeFirstPort s.draws with
      | .u0 => (s.drawn.retest .u0).retest .u1
      | .u1 => (s.drawn.retest .u1).retest .u0 := by
    have h₀ : s.ports.heldU0 = some r₀ := by rw [h]
    have h₁ : s.ports.heldU1 = some r₁ := by rw [h]
    simp only [State.retestHeld, h₀, h₁]
    rfl
  have hleft (r : Request) : (s.drawn.present r).ports = s.ports.clear r.port :=
    congrArg State.ports (present_running s.drawn r s.ports s.out hs)
  refine ⟨fun hdraw => ?_, fun hdraw => ?_⟩ <;> rw [hretest, hdraw] <;> simp only []
  · rw [s.drawn.retest_of_held .u0 r₀ (by simp [State.heldAt, State.drawn, h]) hport₀,
      State.retest_of_held _ .u1 r₁ (by simp [State.heldAt, hleft, hport₀, Ports.clear, h]) hport₁]
  · rw [s.drawn.retest_of_held .u1 r₁ (by simp [State.heldAt, State.drawn, h]) hport₁,
      State.retest_of_held _ .u0 r₀ (by simp [State.heldAt, hleft, hport₁, Ports.clear, h]) hport₀]

/-- R160: RUNNING, with the scrub loaded. -/
def State.started (s : State) : State := State.startScrub { s with service := .running }

end Sys2Proof.Machine

namespace Sys2Proof.Proofs

open Sys2Proof.Machine

/-- Settles O38: by what the ports hold; what is put out meanwhile is put out with the frame. -/
theorem startRunsTheBridge : Obligations.StartRunsTheBridge := by
  refine ⟨fun s h hs => ?_, fun s h hs => ?_⟩
  · exact congrArg _ (takeCommand_of_settled .start s ⟨s.framed 3, .refusedState, []⟩ h nofun nofun (if_neg hs))
  · obtain ⟨⟨hout, hopen⟩, hslot⟩ := h
    have hrun (t : State) (ht : (s.started.withOut (frameOutputs 3)).retestHeld.takeIfDue = t) :
        exec .start s = .next (t.result 0x20 .ok []) :=
      congrArg _ (takeCommand_of_settled .start s ⟨t, .ok, []⟩ ⟨⟨hout, hopen⟩, hslot⟩ nofun nofun
        ((if_pos hs).trans (congrArg (fun t : State => (⟨t, .ok, []⟩ : Settled)) ht)))
    have hnone (hheld : NoneHeld s) : (s.started.withOut (frameOutputs 3)).retestHeld = s.started.withOut (frameOutputs 3) :=
      retestHeld_of_noneHeld _ hheld
    have htaken (t v : State) (o : Outputs) (ht : OutOfReset t) (hv : exec .take t = .next v) :
        (t.withOut o).takeIfDue = v.withOut o := by
      rw [exec_take t ht] at hv
      cases hv
      exact takeIfDue_withOut t.quiet o
    have hone (r : Request) (hclear : s.ports.clear r.port = ⟨none, none⟩) (u v : State)
        (hu : exec (.presentedRequest r) (s.started.withPorts ⟨none, none⟩) = .next u) (hv : exec .take u = .next v) :
        ((s.started.withOut (frameOutputs 3)).present r).takeIfDue = v.withOut { u.out with miso := List.replicate 3 0x00 } := by
      have hpresented := presented_of_exec s.started r u hout rfl hu
      have hpresent := hpresented.present s.ports (frameOutputs 3)
      rw [hclear, u.withPorts_of_none hpresented.ports, andResponses_of_frame 3 u.out hpresented.memory] at hpresent
      exact (congrArg State.takeIfDue hpresent).trans (htaken u v _ hpresented.outOfReset hv)
    refine ⟨fun hheld hempty => ?_, fun hheld u hu => ?_, fun r hports hport u v hu hv => ?_,
      fun r hports hport u v hu hv => ?_, fun r₀ r₁ hports hport₀ hport₁ => ?_⟩
    · refine hrun _ ?_
      rw [hnone hheld]
      refine (takeIfDue_withOut s.started (frameOutputs 3)).trans (congrArg (fun t : State => t.withOut (frameOutputs 3)) ?_)
      exact if_neg (by simp [State.takeDue, State.started, State.startScrub, hempty])
    · refine hrun _ ?_
      rw [hnone hheld]
      exact htaken _ u (frameOutputs 3) hout hu
    · refine hrun _ ?_
      rw [retestHeld_of_u0 (s.started.withOut (frameOutputs 3)) r hports hport]
      exact hone r (by rw [hports, hport]; rfl) u v hu hv
    · refine hrun _ ?_
      rw [retestHeld_of_u1 (s.started.withOut (frameOutputs 3)) r hports hport]
      exact hone r (by rw [hports, hport]; rfl) u v hu hv
    · have htwo (first second : Request) (hclear : (s.ports.clear first.port).clear second.port = ⟨none, none⟩)
          (u v w : State) (hu : exec (.presentedRequest first) (s.started.drawn.withPorts ⟨none, none⟩) = .next u)
          (hv : exec (.presentedRequest second) u = .next v) (hw : exec .take v = .next w) :
          (((s.started.drawn.withOut (frameOutputs 3)).present first).present second).takeIfDue =
            w.withOut ⟨u.out.u0 ++ v.out.u0, u.out.u1 ++ v.out.u1, [], List.replicate 3 0x00⟩ := by
        have hfirst := presented_of_exec s.started.drawn first u hout rfl hu
        rw [← u.withPorts_of_none hfirst.ports] at hv
        have hsecond := presented_of_exec u second v hfirst.outOfReset hfirst.running hv
        have hboth : ((s.started.drawn.withOut (frameOutputs 3)).present first).present second =
            v.withOut ⟨u.out.u0 ++ v.out.u0, u.out.u1 ++ v.out.u1, [], List.replicate 3 0x00⟩ := by
          refine (congrArg (fun t : State => t.present second) (hfirst.present s.ports (frameOutputs 3))).trans ?_
          rw [hsecond.present, hclear, v.withPorts_of_none hsecond.ports]
          rfl
        exact (congrArg State.takeIfDue hboth).trans (htaken v w _ hsecond.outOfReset hw)
      obtain ⟨hzero, hone⟩ := retestHeld_of_both (s.started.withOut (frameOutputs 3)) r₀ r₁ hports hport₀ hport₁ rfl
      cases hfirst : Config.freeFirstPort s.draws with
      | u0 =>
        refine ⟨r₀, r₁, .inl ⟨rfl, rfl⟩, fun u v w hu hv hw => hrun _ ?_⟩
        rw [hzero hfirst]
        exact htwo r₀ r₁ (by rw [hports, hport₀, hport₁]; rfl) u v w hu hv hw
      | u1 =>
        refine ⟨r₁, r₀, .inr ⟨rfl, rfl⟩, fun u v w hu hv hw => hrun _ ?_⟩
        rw [hone hfirst]
        exact htwo r₁ r₀ (by rw [hports, hport₀, hport₁]; rfl) u v w hu hv hw

end Sys2Proof.Proofs
end

section
/-! PROOFS. The take (R73, R92, R108 to R111), and the Remap Table looked up both ways (R85, R86). -/

-- One declaration after the other: side by side, the threads with their stacks outgrow the memory of the check.
set_option Elab.async false

namespace Sys2Proof.Machine

theorem lineBusy_iff (s : State) (h : Nat) :
    s.lineBusy h = true ↔
      (∃ e ∈ s.tt, e.home = h ∧ (e.phase = .issued ∨ e.phase = .issuedWrite)) ∨
      (∃ r ∈ s.repairs.issued, r.record.home = h) ∨ ∃ r ∈ s.scrub.read, r.home = h ∧ r.granted ≠ none := by
  simp only [State.lineBusy, Bool.or_eq_true, List.any_eq_true, Bool.and_eq_true, beq_iff_eq, Entry.isIssued_iff,
    Option.any_eq_true, Option.isSome_iff_ne_none, Option.mem_def, or_assoc]

theorem takeDue_iff (s : State) :
    s.takeDue = true ↔ s.engine = .idle ∧ s.service = .running ∧ s.sparing ≠ [] := by
  simp [State.takeDue, and_assoc]

/-- R92: the line's ACTIVE entry, or else the lowest FREE one. -/
theorem takeEntry_of_active (s : State) (h a : Nat) (i : EntryNumber) (hi : s.mapIndex h = some i)
    (ha : s.map[i] = .active h a) : s.takeEntry h = some (i, .spare a) := by
  unfold State.takeEntry
  rw [hi]
  simp only []
  rw [ha]

theorem takeEntry_of_absent (s : State) (h : Nat) (i : EntryNumber) (hi : s.mapIndex h = none)
    (hfree : IsLowestFree s i) : s.takeEntry h = some (i, .home) := by
  unfold State.takeEntry
  rw [hi, (s.lowestFree_eq_some_iff i).2 hfree]
  rfl

/-- R85: an entry that is the only one of its line is the one the lookup finds. -/
theorem State.lookup_of_mapIndex (s : State) (h : Nat) (i : EntryNumber) (hi : s.mapIndex h = some i) :
    s.lookup h = s.map[i] := by
  simp [State.lookup, hi]

/-- R87: the line of the entry that becomes MOVING is MOVING. -/
theorem setMap_isMoving (s : State) (h n : Nat) (i : EntryNumber) (old : OldTarget)
    (hother : ∀ j : EntryNumber, j < i → s.map[j].home? ≠ some h) : (s.setMap i (.moving h old n)).isMoving h = true := by
  have hi : (s.setMap i (.moving h old n)).mapIndex h = some i := by
    refine (State.mapIndex_eq_some_iff _ h i).2 ⟨?_, fun j hj => ?_⟩
    · rw [State.setMap_entry, if_pos rfl]
      rfl
    · rw [State.setMap_entry, if_neg (ne_of_gt hj)]
      exact hother j hj
  rw [State.isMoving, State.lookup_of_mapIndex _ h i hi, State.setMap_entry, if_pos rfl]

/-- R36: the entries of a line that a hazard holds are WAITING, but for those that are issued. -/
theorem relook_waiting_of_held (s : State) (h : Nat) (hheld : ∀ x : Entry, x.home = h → HeldByHazard s x) :
    ∀ e ∈ s.relook.tt, e.home = h → e.phase ≠ .issued → e.phase ≠ .issuedWrite → e.phase = .waiting := by
  intro e he hhome hissued hissuedWrite
  obtain ⟨x, -, rfl⟩ := (mem_relook s e).1 he
  have hphase : x.isIssued = false := by
    rw [← isIssued_phaseNow s x, Bool.eq_false_iff, Ne, Entry.isIssued_iff]
    exact fun hx => hx.elim hissued hissuedWrite
  exact phaseNow_held s x hphase (hheld x hhome)

theorem relook_waiting_of_moving (s : State) (h : Nat) (hmoving : s.isMoving h = true) :
    ∀ e ∈ s.relook.tt, e.home = h → e.phase ≠ .issued → e.phase ≠ .issuedWrite → e.phase = .waiting :=
  relook_waiting_of_held s h fun x hx => .inr (.inr (.inr (.inr (by rwa [hx]))))

/-- R73, R92, R110, R111: what a take with a spare changes. -/
theorem takeWithSpare_eq (s : State) (h n : Nat) (i : EntryNumber) (old : OldTarget)
    (hother : ∀ j : EntryNumber, j < i → s.map[j].home? ≠ some h) :
    ∃ tt, SameButPhases tt s.tt ∧
      (∀ e ∈ tt, e.home = h → e.phase ≠ .issued → e.phase ≠ .issuedWrite → e.phase = .waiting) ∧
      s.takeWithSpare h i old n = { s with
        spares := s.spares.set n .allocated
        map := s.map.set i.1 (.moving h old n) i.2
        repairs := { s.repairs with queue := s.repairs.queue.filter fun q => q.home != h }
        engine := if s.lineBusy h then .quiesce ⟨h, i, old, n⟩ else .copyRead ⟨h, i, old, n⟩ none
        tt := tt } := by
  let t : State := { (s.setSpare n .allocated).setMap i (.moving h old n) with
    repairs := { s.repairs with queue := s.repairs.queue.filter fun r => !(r.home == h) }
    engine := .quiesce ⟨h, i, old, n⟩ }
  have htake : s.takeWithSpare h i old n = t.quiesceEnd.relook := rfl
  have hmoving : t.quiesceEnd.isMoving h = true := by
    rw [State.isMoving_congr (s := s.setMap i (.moving h old n)) (by simp [t])]
    exact setMap_isMoving s h n i old hother
  refine ⟨t.quiesceEnd.relook.tt, ?_, relook_waiting_of_moving _ h hmoving, ?_⟩
  · have hsame := relook_sameButPhases t.quiesceEnd
    rwa [show t.quiesceEnd.tt = s.tt by simp [t]] at hsame
  · have hquiesce : t.quiesceEnd = if s.lineBusy h then t else { t with engine := .copyRead ⟨h, i, old, n⟩ none } :=
      quiesceEnd_of_quiesce t ⟨h, i, old, n⟩ rfl
    rw [htake]
    by_cases hbusy : s.lineBusy h = true
    · rw [if_pos hbusy] at hquiesce ⊢
      rw [hquiesce]
      rfl
    · rw [if_neg hbusy] at hquiesce ⊢
      rw [hquiesce]
      rfl

/-! ## The reverse lookup (R86) -/

theorem MapEntry.mem_names_of_livesAt (e : MapEntry) (k : Nat) (h : e.livesAt k = true) : k ∈ e.names := by
  cases e with
  | free => cases h
  | active home t =>
    obtain rfl : t = k := eq_of_beq h
    exact List.mem_singleton_self t
  | moving home old n => cases old <;> simp_all [MapEntry.livesAt, MapEntry.names]

section
variable (s : State) (hnodup : s.namedSpares.Nodup)
include hnodup

/-- R88: a spare is named once, so the entry that makes it a current location is the one found. -/
theorem homeOfSpare_of_livesAt (i : EntryNumber) (k : Nat) (hi : s.map[i].livesAt k = true) :
    s.homeOfSpare k = s.map[i].home? := by
  have hfound : (entryNumbers.find? fun j => s.map[j].livesAt k) = some i := by
    refine (entryNumbers_find?_eq_some_iff _ i).2 ⟨hi, fun j hj => Bool.eq_false_iff.2 fun hlive => ?_⟩
    exact ((s.namedSpares_nodup_iff).1 hnodup).2 i j (ne_of_gt hj) k (MapEntry.mem_names_of_livesAt _ k hi)
      (MapEntry.mem_names_of_livesAt _ k hlive)
  rw [State.homeOfSpare, hfound]
  rfl

/-- R86: the reverse lookup never finds a line by its new target. -/
theorem homeOfSpare_of_new (i : EntryNumber) (k : Nat) (hi : s.map[i].livesAt k = false) (hk : k ∈ s.map[i].names) :
    s.homeOfSpare k = none := by
  have hfound : (entryNumbers.find? fun j => s.map[j].livesAt k) = none := by
    refine List.find?_eq_none.2 fun j _ hlive => ?_
    have hne : i ≠ j := by
      rintro rfl
      rw [hi] at hlive
      cases hlive
    exact ((s.namedSpares_nodup_iff).1 hnodup).2 i j hne k hk (MapEntry.mem_names_of_livesAt _ k hlive)
  rw [State.homeOfSpare, hfound]
  rfl

end

end Sys2Proof.Machine

namespace Sys2Proof.Proofs

open Sys2Proof.Machine

/-- Settles O26: by the conditions of a take, then by the spare it finds. -/
theorem takeMovesTheHeadRequestsLine : Obligations.TakeMovesTheHeadRequestsLine := by
  refine ⟨lineBusy_iff, fun s hout => ⟨fun hnot => ?_, fun r rest hengine hservice hsparing => ?_⟩⟩
  · rw [exec_take s hout, State.takeIfDue, if_neg fun hdue => hnot ((takeDue_iff s.quiet).1 hdue)]
  · have htake : exec .take s = .next s.quiet.takeHead := by
      have hdue : s.quiet.takeDue = true := (takeDue_iff s.quiet).2 ⟨hengine, hservice, by simp [hsparing]⟩
      rw [exec_take s hout, State.takeIfDue, if_pos hdue]
    refine ⟨fun hnone => ?_, fun n i old hn hentry => ?_⟩
    · rw [htake, takeHead_noSpare s.quiet r rest hsparing ((s.lowestAvailable_eq_none_iff).2 hnone)]
      rfl
    · have hfound : s.takeEntry r.home = some (i, old) ∧ ∀ j : EntryNumber, j < i → s.map[j].home? ≠ some r.home := by
        rcases hentry with ⟨hi, a, ha, rfl⟩ | ⟨hi, hfree, rfl⟩
        · exact ⟨takeEntry_of_active s r.home a i hi ha, ((s.mapIndex_eq_some_iff _ i).1 hi).2⟩
        · exact ⟨takeEntry_of_absent s r.home i hi hfree, fun j _ => (s.mapIndex_eq_none_iff _).1 hi j⟩
      obtain ⟨tt, hsame, hwaiting, heq⟩ := takeWithSpare_eq { s.quiet with sparing := rest } r.home n i old hfound.2
      rw [htake, takeHead_taken s.quiet r rest hsparing n i old ((s.lowestAvailable_eq_some_iff n).2 hn) hfound.1, heq]
      exact ⟨_, rfl, hsame, hwaiting, rfl⟩

/-- Settles O23: by the entry of the line, FREE, ACTIVE or MOVING. -/
theorem mapIsLookedUpByHomeLineAndBySpare : Obligations.MapIsLookedUpByHomeLineAndBySpare := by
  intro s hhomes hnodup i h
  have hlookup (e : MapEntry) (he : s.map[i] = e) (hhome : e.home? = some h) : s.lookup h = e := by
    rw [hhomes.lookup i h (by rw [he]; exact hhome), he]
  refine ⟨hhomes.mapIndex i h, rfl, fun habsent => ?_, fun k hi => ?_, fun n hi => ?_, fun k n hi => ?_⟩
  · have hfree := s.lookup_of_absent h habsent
    exact ⟨(s.mapIndex_eq_none_iff h).2 habsent, by rw [State.currentLocation, hfree], by rw [State.resolve, hfree]⟩
  · have hactive := hlookup _ hi rfl
    refine ⟨by rw [State.currentLocation, hactive], by rw [State.resolve, hactive], by rw [State.isMoving, hactive], ?_⟩
    refine (homeOfSpare_of_livesAt s hnodup i k ?_).trans (by rw [hi]; rfl)
    rw [hi]
    exact beq_self_eq_true k
  · have hmoving := hlookup _ hi rfl
    refine ⟨by rw [State.currentLocation, hmoving]; rfl, by rw [State.resolve, hmoving],
      by rw [State.isMoving, hmoving], homeOfSpare_of_new s hnodup i n (by rw [hi]; rfl) (by simp [hi, MapEntry.names])⟩
  · have hmoving := hlookup _ hi rfl
    have hne : k ≠ n := by
      have hnames := ((s.namedSpares_nodup_iff).1 hnodup).1 i
      rw [hi] at hnames
      simpa [MapEntry.names] using hnames
    refine ⟨by rw [State.currentLocation, hmoving]; rfl, by rw [State.resolve, hmoving],
      by rw [State.isMoving, hmoving], ?_, ?_⟩
    · refine (homeOfSpare_of_livesAt s hnodup i k ?_).trans (by rw [hi]; rfl)
      rw [hi]
      exact beq_self_eq_true k
    · refine homeOfSpare_of_new s hnodup i n ?_ (by simp [hi, MapEntry.names])
      rw [hi]
      exact beq_false_of_ne hne

end Sys2Proof.Proofs
end

section
/-! PROOFS. What a read hands on (R48, R65 to R69, R76 to R79, R103): the repair offer and the suspect update. -/

-- One declaration after the other: side by side, the threads with their stacks outgrow the memory of the check.
set_option Elab.async false

namespace Sys2Proof.Machine

/-! ## Sets of chunks -/

theorem chunkNumbers_pairwise : chunkNumbers.Pairwise (· < ·) := by decide

theorem mem_correctedChunks (r : LineResult) (c : ChunkNumber) : c ∈ correctedChunks r ↔ ∃ d, r[c] = .corrected d := by
  simp only [correctedChunks, List.mem_filter, mem_chunkNumbers, true_and]
  cases r[c] <;> simp [ChunkResult.isCorrected]

theorem mem_uncorrectableChunks (r : LineResult) (c : ChunkNumber) :
    c ∈ uncorrectableChunks r ↔ r[c] = .uncorrectable := by
  simp only [uncorrectableChunks, List.mem_filter, mem_chunkNumbers, true_and]
  cases r[c] <;> simp [ChunkResult.isUncorrectable]

theorem ChunkResult.isPoisoned_iff (x : ChunkResult) : x.isPoisoned = true ↔ x = .poisoned := by
  cases x <;> simp [ChunkResult.isPoisoned]

theorem repairContent_eq_some_iff (x : ChunkResult) (content : ChunkContent) :
    repairContent x = some content ↔
      (∃ d, x = .corrected d ∧ content = .data d) ∨ (x = .uncorrectable ∧ content = .poison) := by
  cases x <;> simp [repairContent, eq_comm]

theorem mem_repairChunks (r : LineResult) (c : ChunkNumber) (x : ChunkContent) :
    (c, x) ∈ repairChunks r ↔
      (∃ d, r[c] = .corrected d ∧ x = .data d) ∨ (r[c] = .uncorrectable ∧ x = .poison) :=
  (mem_chunkContents (fun c => repairContent r[c]) c x).trans (repairContent_eq_some_iff r[c] x)

theorem repairChunks_pairwise (r : LineResult) : (repairChunks r).Pairwise fun a b => a.1 < b.1 := by
  refine List.Pairwise.filterMap _ (fun a a' hlt b hb b' hb' => ?_) chunkNumbers_pairwise
  obtain ⟨x, -, rfl⟩ := Option.map_eq_some_iff.1 hb
  obtain ⟨x', -, rfl⟩ := Option.map_eq_some_iff.1 hb'
  exact hlt

/-- The content of a chunk set that is given chunk by chunk. -/
theorem contentOf_chunkContents (f : ChunkNumber → Option ChunkContent) (c : ChunkNumber) :
    contentOf (chunkNumbers.filterMap fun c => (f c).map fun x => (c, x)) c = f c := by
  unfold contentOf
  cases hfound : (chunkNumbers.filterMap fun c => (f c).map fun x => (c, x)).find? fun x => x.1 == c with
  | none =>
    cases hf : f c with
    | none => rfl
    | some x =>
      have hmem := (mem_chunkContents f c x).2 hf
      exact absurd (List.find?_eq_none.1 hfound _ hmem) (by simp)
  | some x =>
    obtain rfl : x.1 = c := eq_of_beq (List.find?_some (p := fun y : ChunkNumber × ChunkContent => y.1 == c) hfound)
    exact ((mem_chunkContents f x.1 x.2).1 (List.mem_of_find?_eq_some hfound)).symm

theorem contentOf_mergeChunks (old new : List (ChunkNumber × ChunkContent)) (c : ChunkNumber) :
    contentOf (mergeChunks old new) c = (contentOf new c).or (contentOf old c) :=
  contentOf_chunkContents (fun c => (contentOf new c).or (contentOf old c)) c

/-! ## The repair offer (R66 to R69) -/

section
variable (s : State) (src : ReadSource) (chunks : List (ChunkNumber × ChunkContent))

theorem discardsRepair_iff :
    s.discardsRepair src = true ↔
      (∃ e ∈ s.tt, e.home = src.home ∧ e.op.isWrite = true ∧ src.position < e.position) ∨
      s.isMoving src.home = true := by
  simp [State.discardsRepair, Entry.isWrite, and_assoc]

theorem settleRepair_discarded (h : s.discardsRepair src = true) : s.settleRepair src chunks = s := if_pos h

theorem queue_any_home_iff :
    (s.repairs.queue.any fun r => r.home == src.home) = true ↔ ∃ q ∈ s.repairs.queue, q.home = src.home := by
  simp

theorem settleRepair_merged (h : s.discardsRepair src = false) (hq : ∃ q ∈ s.repairs.queue, q.home = src.home) :
    s.settleRepair src chunks = { s with repairs := { s.repairs with
      queue := s.repairs.queue.map fun q =>
        if q.home = src.home then { q with chunks := mergeChunks q.chunks chunks } else q } } := by
  unfold State.settleRepair
  rw [h, if_neg nofun, if_pos ((queue_any_home_iff s src).2 hq)]
  simp only [beq_iff_eq]

theorem settleRepair_dropped (h : s.discardsRepair src = false) (hq : ∀ q ∈ s.repairs.queue, q.home ≠ src.home)
    (hfull : 4 ≤ s.repairs.queue.length) :
    s.settleRepair src chunks = { s with
      events := s.events.offer s.cfg.eventMask
        { kind := .repairDropped, origin := src.origin, location := some src.location,
          chunk := chunks.head?.map (·.1), chunkCount := some chunks.length, tag := src.tag }
      counters := { s.counters with repairsDropped := advanced s.counters.repairsDropped true } } := by
  unfold State.settleRepair
  rw [h, if_neg nofun, if_neg, if_pos (show Config.repairCapacity ≤ s.repairs.queue.length from hfull)]
  · rw [← saturatingNext_eq_advanced]
    rfl
  · rw [queue_any_home_iff]
    exact fun ⟨q, hmem, hhome⟩ => hq q hmem hhome

theorem settleRepair_queued (h : s.discardsRepair src = false) (hq : ∀ q ∈ s.repairs.queue, q.home ≠ src.home)
    (hroom : s.repairs.queue.length < 4) :
    s.settleRepair src chunks = { s with
      repairs := { s.repairs with
        queue := s.repairs.queue ++ [⟨src.home, src.location, chunks, s.nextPosition⟩] }
      nextPosition := s.nextPosition + 1 } := by
  unfold State.settleRepair
  rw [h, if_neg nofun, if_neg, if_neg (show ¬ Config.repairCapacity ≤ s.repairs.queue.length from Nat.not_le.2 hroom)]
  rw [queue_any_home_iff]
  exact fun ⟨q, hmem, hhome⟩ => hq q hmem hhome

end

/-! ## The suspect update (R76 to R79) -/

section
variable (s : State) (l : Location) (origin : Origin) (tag : Option Tag)

theorem find?_suspect (hlaw : SuspectLaw s) (r : SuspectRecord) (hr : r ∈ s.suspects) :
    (s.suspects.find? fun x => x.location == r.location) = some r := by
  obtain ⟨hpairs, -⟩ := hlaw
  cases hfound : s.suspects.find? fun x => x.location == r.location with
  | none => exact absurd (List.find?_eq_none.1 hfound r hr) (by simp)
  | some x =>
    have hx : x.location = r.location :=
      eq_of_beq (List.find?_some (p := fun x : SuspectRecord => x.location == r.location) hfound)
    have : Std.Symm fun a b : SuspectRecord => a.location ≠ b.location := ⟨fun _ _ h => h.symm⟩
    by_contra hne
    exact hpairs.forall (List.mem_of_find?_eq_some hfound) hr (fun h => hne (by rw [h])) hx

theorem raiseThreshold_of_homeOf (h : Nat) (hh : s.homeOf l = some h) :
    s.raiseThreshold l origin tag = s.offerSparing ⟨h, .threshold, origin⟩ tag := by
  simp only [State.raiseThreshold, hh]

theorem suspectUpdate_recorded (r : SuspectRecord) (hr : (s.suspects.find? fun x => x.location == l) = some r) :
    s.suspectUpdate l origin tag =
      if r.count + 1 < s.cfg.spareThreshold then
        { s with suspects := (s.suspects.filter fun x => x.location != l) ++ [⟨l, r.count + 1, true⟩] }
      else State.raiseThreshold { s with suspects := s.suspects.filter fun x => x.location != l } l origin tag := by
  simp only [State.suspectUpdate, hr]

theorem suspectUpdate_new (h : ∀ r ∈ s.suspects, r.location ≠ l) :
    s.suspectUpdate l origin tag =
      if s.cfg.spareThreshold ≤ 1 then s.raiseThreshold l origin tag
      else { s with suspects := roomForSuspect s.suspects ++ [⟨l, 1, true⟩] } := by
  have hnone : (s.suspects.find? fun x => x.location == l) = none :=
    List.find?_eq_none.2 fun x hx => by simpa using h x hx
  simp only [State.suspectUpdate, hnone]

end

end Sys2Proof.Machine

namespace Sys2Proof.Proofs

open Sys2Proof.Machine

/-- Settles O22: by the record of the location, and by the threshold. -/
theorem suspectUpdateCountsUpToTheThreshold : Obligations.SuspectUpdateCountsUpToTheThreshold := by
  intro s l origin tag hlaw
  refine ⟨fun r hr hl hcount => ?_, fun r hr hl hcount h hh => ?_, fun hnew hone h hh => ?_, fun hnew hmany => ?_⟩
  · subst hl
    rw [suspectUpdate_recorded s _ origin tag r (find?_suspect s hlaw r hr), if_pos hcount]
  · subst hl
    rw [suspectUpdate_recorded s _ origin tag r (find?_suspect s hlaw r hr), if_neg (by omega)]
    exact raiseThreshold_of_homeOf _ _ origin tag h hh
  · rw [suspectUpdate_new s l origin tag hnew, if_pos (by omega), raiseThreshold_of_homeOf s l origin tag h hh]
  · rw [suspectUpdate_new s l origin tag hnew, if_neg (by omega)]
    rfl

/-- Settles O20: the offer test by test, the sets chunk by chunk, and the hand-on in its three parts. -/
theorem repairOfferIsSettledInOrder : Obligations.RepairOfferIsSettledInOrder := by
  refine ⟨fun s src chunks => ⟨fun h => ?_, fun htt hmoving => ?_⟩, contentOf_mergeChunks, fun r => ?_, fun r =>
    ⟨repairChunks_pairwise r, mem_repairChunks r⟩, fun s src r repair => ?_⟩
  · exact settleRepair_discarded s src chunks ((discardsRepair_iff s src).2 h)
  · have hkept : s.discardsRepair src = false := by
      rw [← Bool.not_eq_true, discardsRepair_iff, not_or]
      exact ⟨fun ⟨e, he, hhome, hwrite, hlt⟩ => absurd (htt e he hhome hwrite) (by omega), by simp [hmoving]⟩
    exact ⟨settleRepair_merged s src chunks hkept, settleRepair_dropped s src chunks hkept,
      settleRepair_queued s src chunks hkept⟩
  · exact ⟨chunkNumbers_pairwise.filter _, chunkNumbers_pairwise.filter _, fun c =>
      ⟨mem_correctedChunks r c, mem_uncorrectableChunks r c, ChunkResult.isPoisoned_iff r[c]⟩⟩
  · let offered := if repair then s.offerRepair src r else s
    let updated := if correctedChunks r = [] then offered else offered.suspectUpdate src.location src.origin src.tag
    have hhandOn : s.handOn src r repair = if uncorrectableChunks r = [] then updated
        else updated.offerSparing ⟨src.home, .uncorrectable, src.origin⟩ src.tag := rfl
    refine ⟨offered, updated, fun ⟨hrepair, henable, hchunks⟩ => ?_, fun hnot => ?_, fun ⟨c, d, hc⟩ => ?_, fun hnone => ?_,
      fun ⟨c, hc⟩ => ?_, fun hnone => ?_⟩
    · subst hrepair
      exact if_pos (c := s.cfg.repairEnable = true ∧ repairChunks r ≠ []) ⟨henable, hchunks⟩
    · cases repair with
      | false => rfl
      | true => exact if_neg fun h => hnot ⟨rfl, h⟩
    · exact if_neg fun hnil => (correctedChunks_eq_nil r).1 hnil c d hc
    · exact if_pos ((correctedChunks_eq_nil r).2 hnone)
    · rw [hhandOn, if_neg fun hnil => (uncorrectableChunks_eq_nil r).1 hnil c hc]
    · rw [hhandOn, if_pos ((uncorrectableChunks_eq_nil r).2 hnone)]

end Sys2Proof.Proofs
end

section
/-! PROOFS. The end of an operation (7.4): the completion's slot, what follows every end, and what a hand-on depends on
and leaves alone. -/

-- One declaration after the other: side by side, the threads with their stacks outgrow the memory of the check.
set_option Elab.async false

namespace Sys2Proof.Machine

/-! ## What follows every end (R30, R111) -/

/-- QUIESCE may end, and entries look again. -/
def State.settled (s : State) : State := s.quiesceEnd.relook

theorem settled_eq (s : State) : s.settled = { s with tt := s.settled.tt, engine := s.settled.engine } := by
  unfold State.settled
  rw [quiesceEnd_eq]
  rfl

theorem settled_sameButPhases (s : State) : SameButPhases s.settled.tt s.tt := by
  have htt : s.quiesceEnd.tt = s.tt := by rw [quiesceEnd_eq]
  exact htt ▸ relook_sameButPhases s.quiesceEnd

theorem settled_quiesceEnds (s : State) : QuiesceEnds s.engine s.settled := quiesceEnd_relook s

theorem settled_engine (s : State) (h : ∀ m, s.engine ≠ .quiesce m) : s.settled.engine = s.engine :=
  (settled_quiesceEnds s).2 h

/-! ## The requester's rule -/

theorem entryOf_name (s : State) (p : Port) (t : Tag) (e : Entry) (h : s.entryOf p t = some e) :
    e ∈ s.tt ∧ e.port = p ∧ e.tag = t := by
  have hname := List.find?_some h
  simp only [Bool.and_eq_true, beq_iff_eq] at hname
  exact ⟨List.mem_of_find?_eq_some h, hname⟩

section
variable (s : State) (n : SlotNumber) (x : Ending)

theorem endOperation_entry (p : Port) (t : Tag) (e : Entry) (h : s.entryOf p t = some e) :
    s.endOperation n (.entry p t) x = (s.endEntry e x).settled := by
  simp only [State.endOperation, h]
  rfl

theorem endOperation_repair (h : Nat) : s.endOperation n (.repair h) x = (s.endRepair n x).settled := rfl
theorem endOperation_scrub : s.endOperation n .scrub x = (s.endScrubRead x.result?).settled := rfl
theorem endOperation_copyRead : s.endOperation n .copyRead x = (s.endCopyRead x.result?).settled := rfl
theorem endOperation_copyWrite : s.endOperation n .copyWrite x = (s.endCopyWrite x.isDone).settled := rfl

end

/-! ## The completion's slot (R136) -/

/-- The bridge with the slot FREE, nothing put out yet, and the free choices made so far. -/
def State.vacated (s : State) (n : SlotNumber) (draws : Nat) : State :=
  { s with out := .none, memory := s.slotFreed n, draws := draws }

/-- The free choices after a DONE: one more when it carries no line for a LINE READ (log 8). -/
def drawsOf (draws : Nat) (kind : OpKind) (stored : Option StoredLine) : Nat :=
  draws + if kind = .lineRead ∧ stored = none then 1 else 0

@[simp] theorem drawsOf_chunkWrite (draws : Nat) (stored : Option StoredLine) : drawsOf draws .chunkWrite stored = draws := by
  simp [drawsOf]

/-- R136: the report of a FAILED operation. -/
def downstreamFailed (n : SlotNumber) (l : Location) : Event :=
  { kind := .downstreamFailed, origin := .memoryPort, location := some l, detail := some (.slot n) }

section
variable (s : State) (n : SlotNumber) (kind : OpKind) (line : Nat) (l : Location) (q : Requester) (count : Nat)

theorem exec_done (stored : Option StoredLine) (hout : OutOfReset s)
    (hslot : s.memory.slots[n] = .busy kind line l q count) :
    exec (.completion n (.done stored)) s = .next ((s.vacated n (drawsOf s.draws kind stored)).endOperation n q
      (.done (classifyLine (completedLine s.draws stored)))) := by
  have hquiet : s.quiet.memory.slots[n] = .busy kind line l q count := hslot
  rw [exec_completion_out s n _ hout]
  simp only [State.complete, hquiet]
  rfl

theorem exec_failed (hout : OutOfReset s) (hslot : s.memory.slots[n] = .busy kind line l q count)
    (hq : q.isEngine = false) :
    exec (.completion n .failed) s =
      .next (((s.vacated n s.draws).offer (downstreamFailed n l)).endOperation n q .failure) := by
  have hquiet : s.quiet.memory.slots[n] = .busy kind line l q count := hslot
  rw [exec_completion_out s n _ hout]
  simp only [State.complete, hquiet, State.completeBusy, hq]
  rfl

theorem exec_failed_engine (hout : OutOfReset s) (hslot : s.memory.slots[n] = .busy kind line l q count)
    (hq : q.isEngine = true) :
    exec (.completion n .failed) s = .next ((s.vacated n s.draws).endOperation n q .failure) := by
  have hquiet : s.quiet.memory.slots[n] = .busy kind line l q count := hslot
  rw [exec_completion_out s n _ hout]
  simp only [State.complete, hquiet, State.completeBusy, hq]
  rfl

end

/-! ## Answers -/

theorem answer_eq (s : State) (e : Entry) (status : ResponseStatus) (data : List Byte) :
    s.answer e status data = { s with
      tt := s.others e.port e.tag, out := (s.respond e.port ⟨e.tag, status, data⟩).out } := by
  unfold State.answer State.respond
  cases e.port <;> rfl

/-- A bridge that answers an entry and changes nothing else but what follows every end. -/
theorem settled_answer (s : State) (e : Entry) (status : ResponseStatus) (data : List Byte) (u : State)
    (hu : u = (s.answer e status data).settled) :
    u.out = (s.respond e.port ⟨e.tag, status, data⟩).out ∧ SameButPhases u.tt (s.others e.port e.tag) ∧
      QuiesceEnds s.engine u ∧ u = { s with tt := u.tt, out := u.out, engine := u.engine } := by
  have heq := settled_eq (s.answer e status data)
  have htt := settled_sameButPhases (s.answer e status data)
  have hq := settled_quiesceEnds (s.answer e status data)
  rw [← hu] at heq htt hq
  rw [answer_eq] at heq htt hq
  refine ⟨by rw [heq], htt, hq, heq.trans ?_⟩
  rw [heq]

theorem respond_out_congr {s t : State} (h : s.out = t.out) (p : Port) (r : Response) :
    (s.respond p r).out = (t.respond p r).out := by
  cases p <;> simp only [State.respond, h]

section
variable (s : State) (n : SlotNumber) (kind : OpKind) (line : Nat) (l : Location) (e : Entry) (count : Nat)
  (hout : OutOfReset s) (hslot : s.memory.slots[n] = .busy kind line l (.entry e.port e.tag) count)
  (he : s.entryOf e.port e.tag = some e)
include hout hslot he

theorem exec_done_entry (stored : Option StoredLine) :
    exec (.completion n (.done stored)) s = .next (((s.vacated n (drawsOf s.draws kind stored)).endEntry e
      (.done (classifyLine (completedLine s.draws stored)))).settled) := by
  exact (exec_done s n kind line l _ count stored hout hslot).trans
    (congrArg Host.Outcome.next (endOperation_entry (s.vacated n _) n _ _ _ e he))

theorem exec_failed_entry :
    exec (.completion n .failed) s =
      .next ((((s.vacated n s.draws).offer (downstreamFailed n l)).endEntry e .failure).settled) := by
  exact (exec_failed s n kind line l _ count hout hslot rfl).trans (congrArg Host.Outcome.next
    (endOperation_entry ((s.vacated n s.draws).offer (downstreamFailed n l)) n _ _ _ e he))

end

end Sys2Proof.Machine

namespace Sys2Proof.Proofs

open Sys2Proof.Machine

/-- Settles O17: outside ABORTING the entry is answered and nothing is handed on, by the equation of each ending. -/
theorem writesAndFailuresAreAnswered : Obligations.WritesAndFailuresAreAnswered := by
  intro s n kind line l p t count e hout hslot he hservice
  obtain ⟨-, rfl, rfl⟩ := entryOf_name s p t e he
  constructor
  · rintro stored rfl hphase
    have hnot : e.phase ≠ .issued := by simp [hphase]
    obtain ⟨hresponse, htt, hq, heq⟩ := settled_answer (s.vacated n s.draws) e .ok [] _ rfl
    refine ⟨_, ?_, hresponse.trans (respond_out_congr (by rfl) _ _), htt, hq, heq⟩
    rw [exec_done_entry s n _ line l e count hout hslot he, drawsOf_chunkWrite,
      endEntry_written (s.vacated n s.draws) e _ hservice hnot]
  · obtain ⟨hresponse, htt, hq, heq⟩ :=
      settled_answer ((s.vacated n s.draws).offer (downstreamFailed n l)) e .errMemory [] _ rfl
    refine ⟨_, ?_, hresponse.trans (respond_out_congr (by rfl) _ _), htt, hq, heq⟩
    rw [exec_failed_entry s n kind line l e count hout hslot he,
      endEntry_failure ((s.vacated n s.draws).offer _) e hservice]

/-- Settles O42: in ABORTING the answer is the same for every status; only a FAILED reports. -/
theorem abortingAnswersAborted : Obligations.AbortingAnswersAborted := by
  intro s n kind line l p t count e status hout hservice hslot he
  obtain ⟨-, rfl, rfl⟩ := entryOf_name s p t e he
  cases status with
  | done stored =>
    obtain ⟨hresponse, htt, hq, heq⟩ :=
      settled_answer (s.vacated n (drawsOf s.draws kind stored)) e .aborted [] _ rfl
    refine ⟨_, ?_, hresponse.trans (respond_out_congr (by rfl) _ _), htt, hq, heq.trans ?_⟩
    · rw [exec_done_entry s n kind line l e count hout hslot he, endEntry_aborting (s.vacated n _) e _ hservice]
    · rw [heq]
      rfl
  | failed =>
    obtain ⟨hresponse, htt, hq, heq⟩ :=
      settled_answer ((s.vacated n s.draws).offer (downstreamFailed n l)) e .aborted [] _ rfl
    refine ⟨_, ?_, hresponse.trans (respond_out_congr (by rfl) _ _), htt, hq, heq.trans ?_⟩
    · rw [exec_failed_entry s n kind line l e count hout hslot he,
        endEntry_aborting ((s.vacated n s.draws).offer _) e _ hservice]
    · rw [heq]
      rfl

/-- Settles O21: the repair of the slot leaves, and a DONE counts. -/
theorem issuedRepairEnds : Obligations.IssuedRepairEnds := by
  intro s n line l h count hout hslot
  constructor
  · intro stored
    let y := (s.vacated n s.draws).endRepair n (.done (classifyLine (completedLine s.draws stored)))
    refine ⟨y.settled, ?_, settled_sameButPhases y, settled_quiesceEnds y, (settled_eq y).trans ?_⟩
    · rw [exec_done s n _ line l _ count stored hout hslot, drawsOf_chunkWrite, endOperation_repair]
    · simp [y, State.endRepair, Ending.isDone, State.bump, Counters.bump, saturatingNext_eq_advanced, State.vacated]
  · let y := ((s.vacated n s.draws).offer (downstreamFailed n l)).endRepair n .failure
    refine ⟨y.settled, ?_, settled_sameButPhases y, settled_quiesceEnds y, settled_eq y⟩
    rw [exec_failed s n _ line l _ count hout hslot rfl, endOperation_repair]

end Sys2Proof.Proofs
end

section
/-! PROOFS. What a hand-on changes (R48): its counters, its events, and that it looks neither at the free choices nor,
without a repair offer, at the entries. -/

-- One declaration after the other: side by side, the threads with their stacks outgrow the memory of the check.
set_option Elab.async false

namespace Sys2Proof.Machine

/-! ## What it leaves alone -/

section
variable (s : State) (src : ReadSource) (r : LineResult)

theorem handOn_eq (repair : Bool) :
    s.handOn src r repair = { s with
      counters := (s.handOn src r repair).counters, events := (s.handOn src r repair).events
      repairs := (s.handOn src r repair).repairs, nextPosition := (s.handOn src r repair).nextPosition
      suspects := (s.handOn src r repair).suspects, sparing := (s.handOn src r repair).sparing } := by
  have hframe := State.handOn_frame s src r repair
  generalize s.handOn src r repair = u at hframe ⊢
  cases u
  simp_all

theorem settleRepair_counters (l : List (ChunkNumber × ChunkContent)) :
    (s.settleRepair src l).counters =
      { s.counters with repairsDropped := (s.settleRepair src l).counters.repairsDropped } := by
  unfold State.settleRepair
  split_ifs <;> rfl

theorem offerRepair_counters :
    (s.offerRepair src r).counters =
      { s.counters with repairsDropped := (s.offerRepair src r).counters.repairsDropped } := by
  unfold State.offerRepair
  split_ifs
  · exact settleRepair_counters s src _
  · rfl

/-- R76: the suspect update and the sparing request of a hand-on. -/
def State.suspectAndSpare : State :=
  let s₂ := if correctedChunks r = [] then s else s.suspectUpdate src.location src.origin src.tag
  if uncorrectableChunks r = [] then s₂ else s₂.offerSparing ⟨src.home, .uncorrectable, src.origin⟩ src.tag

theorem handOn_offering : s.handOn src r true = (s.offerRepair src r).suspectAndSpare src r := rfl

theorem handOn_not_offering : s.handOn src r false = s.suspectAndSpare src r := rfl

theorem suspectAndSpare_eq :
    s.suspectAndSpare src r = { s with
      events := (s.suspectAndSpare src r).events
      suspects := (s.suspectAndSpare src r).suspects, sparing := (s.suspectAndSpare src r).sparing } := by
  have hframe : (s.suspectAndSpare src r).counters = s.counters ∧ (s.suspectAndSpare src r).repairs = s.repairs ∧
      (s.suspectAndSpare src r).nextPosition = s.nextPosition := by
    unfold State.suspectAndSpare
    refine ⟨?_, ?_, ?_⟩ <;> split_ifs <;> simp
  have heq := handOn_eq s src r false
  rw [handOn_not_offering] at heq
  rw [hframe.1, hframe.2.1, hframe.2.2] at heq
  exact heq

theorem handOn_counters :
    (s.handOn src r true).counters =
      { s.counters with repairsDropped := (s.handOn src r true).counters.repairsDropped } := by
  rw [handOn_offering, suspectAndSpare_eq]
  exact offerRepair_counters s src r

/-! ## Its events -/

/-- The state's events are those of `s`, then some of the kinds `kinds`. -/
def OffersOnly (s u : State) (kinds : EventKind → Prop) : Prop :=
  ∃ later, u.events = s.events.offers s.cfg.eventMask later ∧ ∀ x ∈ later, kinds x.kind

variable {s} in
theorem OffersOnly.none {u : State} {kinds : EventKind → Prop} (h : u.events = s.events) : OffersOnly s u kinds :=
  ⟨[], h, by simp⟩

variable {s} in
theorem OffersOnly.one {u : State} {kinds : EventKind → Prop} (x : Event)
    (h : u.events = s.events.offer s.cfg.eventMask x) (hx : kinds x.kind) : OffersOnly s u kinds :=
  ⟨[x], h, by simpa⟩

variable {s} in
theorem OffersOnly.trans {t u : State} {kinds : EventKind → Prop} (h : OffersOnly s t kinds) (hcfg : t.cfg = s.cfg)
    (h' : OffersOnly t u kinds) : OffersOnly s u kinds := by
  obtain ⟨l, hl, hk⟩ := h
  obtain ⟨l', hl', hk'⟩ := h'
  refine ⟨l ++ l', ?_, fun x hx => (List.mem_append.1 hx).elim (hk x) (hk' x)⟩
  rw [EventQueue.offers_append, ← hl, ← hcfg, hl']

variable {s} in
theorem OffersOnly.mono {u : State} {kinds kinds' : EventKind → Prop} (h : OffersOnly s u kinds)
    (hk : ∀ k, kinds k → kinds' k) : OffersOnly s u kinds' := by
  obtain ⟨l, hl, hl'⟩ := h
  exact ⟨l, hl, fun x hx => hk _ (hl' x hx)⟩

theorem offerSparing_offers (q : SparingRequest) (tag : Option Tag) :
    OffersOnly s (s.offerSparing q tag) (· = .spareQueueFull) := by
  unfold State.offerSparing
  cases s.sparingOutcome q with
  | already => exact .none rfl
  | full => exact .one _ rfl rfl
  | queued => exact .none rfl

theorem raiseThreshold_offers (l : Location) (origin : Origin) (tag : Option Tag) :
    OffersOnly s (s.raiseThreshold l origin tag) (· = .spareQueueFull) := by
  unfold State.raiseThreshold
  cases s.homeOf l with
  | some h => exact offerSparing_offers s _ tag
  | none => exact .none rfl

theorem suspectUpdate_offers (l : Location) (origin : Origin) (tag : Option Tag) :
    OffersOnly s (s.suspectUpdate l origin tag) (· = .spareQueueFull) := by
  unfold State.suspectUpdate
  dsimp only
  cases s.suspects.find? fun r => r.location == l with
  | some x =>
    dsimp only
    split_ifs
    · exact .none rfl
    · exact raiseThreshold_offers _ l origin tag
  | none =>
    dsimp only
    split_ifs
    · exact raiseThreshold_offers _ l origin tag
    · exact .none rfl

theorem suspectAndSpare_offers : OffersOnly s (s.suspectAndSpare src r) (· = .spareQueueFull) := by
  have hupdate : OffersOnly s
      (if correctedChunks r = [] then s else s.suspectUpdate src.location src.origin src.tag)
      (· = .spareQueueFull) := by
    split_ifs
    · exact .none rfl
    · exact suspectUpdate_offers s _ _ _
  unfold State.suspectAndSpare
  dsimp only
  split_ifs at hupdate ⊢
  · exact hupdate
  · exact hupdate
  · exact hupdate.trans rfl (offerSparing_offers _ _ _)
  · exact hupdate.trans (by simp) (offerSparing_offers _ _ _)

theorem settleRepair_offers (l : List (ChunkNumber × ChunkContent)) :
    OffersOnly s (s.settleRepair src l) (· = .repairDropped) := by
  unfold State.settleRepair
  split_ifs
  · exact .none rfl
  · exact .none rfl
  · exact .one _ rfl rfl
  · exact .none rfl

theorem offerRepair_offers : OffersOnly s (s.offerRepair src r) (· = .repairDropped) := by
  unfold State.offerRepair
  split_ifs
  · exact settleRepair_offers s src _
  · exact .none rfl

theorem handOn_offers :
    OffersOnly s (s.handOn src r true) fun k => k = .repairDropped ∨ k = .spareQueueFull :=
  ((offerRepair_offers s src r).mono fun _ => .inl).trans (by simp)
    ((suspectAndSpare_offers (s.offerRepair src r) src r).mono fun _ => .inr)

end

/-! ## What it does not look at -/

/-- The bridge with other entries and another count of free choices. -/
def State.withTable (s : State) (tt : List Entry) (draws : Nat) : State := { s with tt := tt, draws := draws }

section
variable (s : State) (tt : List Entry) (d : Nat)

theorem offerSparing_withTable (q : SparingRequest) (tag : Option Tag) :
    (s.withTable tt d).offerSparing q tag = (s.offerSparing q tag).withTable tt d := by
  have hsame : (s.withTable tt d).sparingOutcome q = s.sparingOutcome q := rfl
  unfold State.offerSparing
  rw [hsame]
  cases s.sparingOutcome q <;> rfl

theorem raiseThreshold_withTable (l : Location) (origin : Origin) (tag : Option Tag) :
    (s.withTable tt d).raiseThreshold l origin tag = (s.raiseThreshold l origin tag).withTable tt d := by
  have hsame : (s.withTable tt d).homeOf l = s.homeOf l := rfl
  unfold State.raiseThreshold
  rw [hsame]
  cases s.homeOf l with
  | some h => exact offerSparing_withTable s tt d _ tag
  | none => rfl

/-- The bridge with another Suspect List. -/
def State.withSuspects (s : State) (l : List SuspectRecord) : State := { s with suspects := l }

theorem suspectUpdate_withTable (l : Location) (origin : Origin) (tag : Option Tag) :
    (s.withTable tt d).suspectUpdate l origin tag = (s.suspectUpdate l origin tag).withTable tt d := by
  cases hfind : s.suspects.find? fun x => x.location == l with
  | some x =>
    rw [suspectUpdate_recorded s l origin tag x hfind,
      suspectUpdate_recorded (s.withTable tt d) l origin tag x hfind]
    change (if x.count + 1 < s.cfg.spareThreshold then _ else _) = _
    split_ifs
    · rfl
    · exact raiseThreshold_withTable (s.withSuspects _) tt d l origin tag
  | none =>
    have hnew : ∀ r ∈ s.suspects, r.location ≠ l := by simpa using hfind
    rw [suspectUpdate_new s l origin tag hnew, suspectUpdate_new (s.withTable tt d) l origin tag hnew]
    change (if s.cfg.spareThreshold ≤ 1 then _ else _) = _
    split_ifs
    · exact raiseThreshold_withTable s tt d l origin tag
    · rfl

theorem suspectAndSpare_withTable (src : ReadSource) (r : LineResult) :
    (s.withTable tt d).suspectAndSpare src r = (s.suspectAndSpare src r).withTable tt d := by
  unfold State.suspectAndSpare
  dsimp only
  split_ifs
  · rfl
  · exact suspectUpdate_withTable s tt d _ _ _
  · exact offerSparing_withTable s tt d _ _
  · rw [suspectUpdate_withTable, offerSparing_withTable]

/-- The bridge with another count of free choices. -/
def State.withDraws (s : State) (draws : Nat) : State := { s with draws := draws }

theorem settleRepair_withDraws (src : ReadSource) (l : List (ChunkNumber × ChunkContent)) :
    (s.withDraws d).settleRepair src l = (s.settleRepair src l).withDraws d := by
  have hsame : (s.withDraws d).discardsRepair src = s.discardsRepair src := rfl
  unfold State.settleRepair
  rw [hsame]
  change (if s.discardsRepair src = true then _ else
    if (s.repairs.queue.any fun r => r.home == src.home) = true then _ else
    if Config.repairCapacity ≤ s.repairs.queue.length then _ else _) = _
  split_ifs <;> rfl

theorem offerRepair_withDraws (src : ReadSource) (r : LineResult) :
    (s.withDraws d).offerRepair src r = (s.offerRepair src r).withDraws d := by
  unfold State.offerRepair
  change (if s.cfg.repairEnable = true ∧ repairChunks r ≠ [] then _ else _) = _
  split_ifs
  · exact settleRepair_withDraws s d src _
  · rfl

theorem handOn_withDraws (src : ReadSource) (r : LineResult) :
    (s.withDraws d).handOn src r true = (s.handOn src r true).withDraws d := by
  rw [handOn_offering, handOn_offering, offerRepair_withDraws]
  have htt : (s.offerRepair src r).tt = s.tt := by simp
  have hsame := suspectAndSpare_withTable (s.offerRepair src r) s.tt d src r
  have hleft : (s.offerRepair src r).withTable s.tt d = (s.offerRepair src r).withDraws d := by
    rw [← htt]
    rfl
  have hright : ((s.offerRepair src r).suspectAndSpare src r).withTable s.tt d =
      ((s.offerRepair src r).suspectAndSpare src r).withDraws d := by
    rw [suspectAndSpare_eq, ← htt]
    rfl
  rwa [hleft, hright] at hsame

end

end Sys2Proof.Machine
end

section
/-! PROOFS. A line read that answers its entry and hands its line result on (R45 to R48, R54, R55). -/

-- One declaration after the other: side by side, the threads with their stacks outgrow the memory of the check.
set_option Elab.async false

namespace Sys2Proof.Machine

theorem Entry.source_eq (e : Entry) (l : Location) (h : e.location = some l) :
    e.source = ⟨portOrigin e.port, some e.tag, e.home, l, e.position⟩ := by
  rw [Entry.source, h]
  rfl

theorem judgeChunks_poisoned (r : LineResult) (chunks : List ChunkNumber) (h : ∃ c ∈ chunks, r[c] = .poisoned) :
    judgeChunks r chunks = .errPoison := by
  obtain ⟨c, hc, hr⟩ := h
  exact if_pos (List.any_eq_true.2 ⟨c, hc, (ChunkResult.isPoisoned_iff _).2 hr⟩)

theorem ChunkResult.isUncorrectable_iff (x : ChunkResult) : x.isUncorrectable = true ↔ x = .uncorrectable := by
  cases x <;> simp [ChunkResult.isUncorrectable]

theorem any_isPoisoned_iff (r : LineResult) (chunks : List ChunkNumber) :
    (chunks.any fun c => r[c].isPoisoned) = true ↔ ∃ c ∈ chunks, r[c] = .poisoned := by
  simp only [List.any_eq_true, ChunkResult.isPoisoned_iff]

theorem judgeChunks_uncorrectable (r : LineResult) (chunks : List ChunkNumber) (h : ∀ c ∈ chunks, r[c] ≠ .poisoned)
    (hu : ∃ c ∈ chunks, r[c] = .uncorrectable) : judgeChunks r chunks = .errUncorr := by
  have hnot : ¬ (chunks.any fun c => r[c].isPoisoned) = true := fun hp =>
    let ⟨c, hc, hr⟩ := (any_isPoisoned_iff r chunks).1 hp
    h c hc hr
  obtain ⟨c, hc, hr⟩ := hu
  exact (if_neg hnot).trans (if_pos (List.any_eq_true.2 ⟨c, hc, (ChunkResult.isUncorrectable_iff _).2 hr⟩))

theorem judgeChunks_ok (r : LineResult) (chunks : List ChunkNumber)
    (h : ∀ c ∈ chunks, r[c] ≠ .poisoned ∧ r[c] ≠ .uncorrectable) : judgeChunks r chunks = .ok := by
  refine (if_neg ?_).trans (if_neg ?_)
  · intro hp
    obtain ⟨c, hc, hr⟩ := (any_isPoisoned_iff r chunks).1 hp
    exact (h c hc).1 hr
  · intro hp
    obtain ⟨c, hc, hr⟩ := List.any_eq_true.1 hp
    exact (h c hc).2 ((ChunkResult.isUncorrectable_iff _).1 hr)

/-- R54: a chunk set is refused as POISONED first, then as UNCORRECTABLE. -/
theorem judgeChunks_refused (r : LineResult) (chunks : List ChunkNumber)
    (h : ∃ c ∈ chunks, r[c] = .poisoned ∨ r[c] = .uncorrectable) :
    judgeChunks r chunks = if chunks.any fun c => r[c].isPoisoned then .errPoison else .errUncorr := by
  by_cases hp : (chunks.any fun c => r[c].isPoisoned) = true
  · rw [judgeChunks_poisoned r chunks ((any_isPoisoned_iff r chunks).1 hp), if_pos hp]
  · have hnot : ∀ c ∈ chunks, r[c] ≠ .poisoned := fun c hc hr => hp ((any_isPoisoned_iff r chunks).2 ⟨c, hc, hr⟩)
    obtain ⟨c, hc, hr⟩ := h
    rw [judgeChunks_uncorrectable r chunks hnot ⟨c, hc, hr.resolve_left (hnot c hc)⟩, if_neg hp]

theorem poisonedAmong_ne_nil_iff (r : LineResult) (chunks : List ChunkNumber) :
    poisonedAmong r chunks ≠ [] ↔ ∃ c ∈ chunks, r[c] = .poisoned := by
  simp only [poisonedAmong, ne_eq, List.filter_eq_nil_iff, ChunkResult.isPoisoned_iff]
  push Not
  rfl

/-- The bridge whose read has been reported (R47) and not yet handed on, by the state `u` after the hand-on: its slots,
outputs and read counters are those of `u`. -/
def State.reportedAs (s u : State) (tt : List Entry) (events : EventQueue) : State :=
  { s with
    memory := u.memory, tt := tt, out := u.out
    counters := { s.counters with
      correctedReads := u.counters.correctedReads, uncorrectableReads := u.counters.uncorrectableReads
      poisonReads := u.counters.poisonReads }
    events := events }

/-- What the answer of an entry whose line read is DONE comes to: `u` is the bridge after it. -/
structure AnsweredAndHandedOn (s : State) (n : SlotNumber) (e : Entry) (src : ReadSource) (r : LineResult)
    (judged : List ChunkNumber) (response : Response) (u : State) : Prop where
  out : u.out = (s.quiet.respond e.port response).out
  tt : SameButPhases u.tt (s.others e.port e.tag)
  memory : u.memory = s.slotFreed n
  counters : u.counters = { s.counters with
    correctedReads := advanced s.counters.correctedReads (correctedChunks r ≠ [])
    uncorrectableReads := advanced s.counters.uncorrectableReads (uncorrectableChunks r ≠ [])
    poisonReads := advanced s.counters.poisonReads (∃ c ∈ judged, r[c] = .poisoned)
    repairsDropped := u.counters.repairsDropped }
  events : ∃ later, u.events = (s.events.offers s.cfg.eventMask
      (readEvents src.origin src.tag src.location r (poisonedAmong r judged))).offers s.cfg.eventMask later ∧
    ∀ x ∈ later, x.kind = .repairDropped ∨ x.kind = .spareQueueFull
  quiesce : QuiesceEnds s.engine u
  handed : u = { (s.reportedAs u (s.others e.port e.tag) (s.events.offers s.cfg.eventMask
      (readEvents src.origin src.tag src.location r (poisonedAmong r judged)))).handOn src r true with
        tt := u.tt, engine := u.engine, draws := u.draws }
  frame : u = { s with
    memory := u.memory, tt := u.tt, out := u.out, counters := u.counters, events := u.events
    repairs := u.repairs, nextPosition := u.nextPosition, suspects := u.suspects
    sparing := u.sparing, engine := u.engine, draws := u.draws }

/-- What follows every end changes the entries' phases and the engine, and the free choices
are those of before. -/
theorem settled_withTable_eq (y : State) (tt : List Entry) (d : Nat) (u : State) (hu : (y.withTable tt d).settled = u) :
    u = { y with tt := u.tt, engine := u.engine, draws := u.draws } := by
  subst hu
  have heq := settled_eq (y.withTable tt d)
  refine heq.trans ?_
  have hdraws : (y.withTable tt d).settled.draws = d := by rw [heq]; rfl
  rw [hdraws]
  rfl

theorem settled_withDraws_eq (y : State) (d : Nat) (u : State) (hu : (y.withDraws d).settled = u) :
    u = { y with tt := u.tt, engine := u.engine, draws := u.draws } := settled_withTable_eq y y.tt d u hu

/-- The bridge after a read's report (R47), with the slots, the entries and the outputs of its end. -/
def State.reported (s : State) (memory : MemoryPort) (tt : List Entry) (out : Outputs) (src : ReadSource)
    (r : LineResult) (poisoned : List ChunkNumber) : State :=
  { s with
    memory := memory, tt := tt, out := out
    counters := { s.counters with
      correctedReads := advanced s.counters.correctedReads (correctedChunks r ≠ [])
      uncorrectableReads := advanced s.counters.uncorrectableReads (uncorrectableChunks r ≠ [])
      poisonReads := advanced s.counters.poisonReads (poisoned ≠ []) }
    events := s.events.offers s.cfg.eventMask (readEvents src.origin src.tag src.location r poisoned) }

theorem answeredAndHandedOn (s : State) (n : SlotNumber) (d : Nat) (e : Entry) (src : ReadSource) (r : LineResult)
    (judged : List ChunkNumber) (status : ResponseStatus) (data : List Byte) :
    AnsweredAndHandedOn s n e src r judged ⟨e.tag, status, data⟩
      ((((s.vacated n d).answer e status data).reportRead src r (poisonedAmong r judged)).handOn
        src r true).settled := by
  let out := (s.quiet.respond e.port ⟨e.tag, status, data⟩).out
  let x := s.reported (s.slotFreed n) (s.others e.port e.tag) out src r (poisonedAmong r judged)
  have hx : ((s.vacated n d).answer e status data).reportRead src r (poisonedAmong r judged) = x.withDraws d := by
    rw [reportRead_eq, answer_eq, respond_out_congr (t := s.quiet) (by rfl) _ _]
    rfl
  have hpoisoned : decide (poisonedAmong r judged ≠ []) = decide (∃ c ∈ judged, r[c] = .poisoned) :=
    decide_eq_decide.2 (poisonedAmong_ne_nil_iff r judged)
  rw [hx, handOn_withDraws]
  generalize hu : ((x.handOn src r true).withDraws d).settled = u
  have heq := settled_withDraws_eq (x.handOn src r true) d u hu
  have htt := settled_sameButPhases ((x.handOn src r true).withDraws d)
  have hq := settled_quiesceEnds ((x.handOn src r true).withDraws d)
  rw [hu] at htt hq
  have hframe : x.handOn src r true = _ := handOn_eq x src r true
  have hmemory : u.memory = s.slotFreed n := by
    rw [heq, hframe]
    rfl
  have hout : u.out = out := by
    rw [heq, hframe]
    rfl
  have hevents : u.events = (x.handOn src r true).events := by rw [heq]
  have hcounters : u.counters = { x.counters with repairsDropped := u.counters.repairsDropped } := by
    rw [heq]
    exact handOn_counters x src r
  have hreported : s.reportedAs u (s.others e.port e.tag) (s.events.offers s.cfg.eventMask
      (readEvents src.origin src.tag src.location r (poisonedAmong r judged))) = x := by
    unfold State.reportedAs
    rw [hmemory, hout, hcounters]
    rfl
  refine ⟨hout, ?_, hmemory, ?_, hevents ▸ handOn_offers x src r, ?_, ?_, ?_⟩
  · rw [hframe] at htt
    exact htt
  · rw [← hpoisoned]
    exact hcounters
  · rw [hframe] at hq
    exact hq
  · rw [hreported]
    exact heq
  · rw [hframe] at heq
    rw [hmemory, hout, heq]
    rfl

/-- R46: the bytes asked for. -/
theorem readData_getElem? (offset length : Nat) (r : LineResult) (i : Nat) (hi : i < length) (c : ChunkNumber)
    (d : ChunkData) (hc : c.val = (offset + i) / 8) (hd : r[c].supplied = some d) :
    (readData offset length r)[i]? = some (byteAt d ((offset + i) % 8)) := by
  have hfin : Fin.ofNat 8 ((offset + i) / 8) = c := by
    apply Fin.ext
    have := c.isLt
    simp only [Fin.ofNat]
    omega
  simp only [readData, List.getElem?_map, List.getElem?_range hi, Option.map_some, hfin, hd, Option.getD_some]

theorem endRead_eq (s : State) (e : Entry) (r : LineResult) :
    s.endRead e r = ((s.answer e (judgeChunks r (requestedChunks e.offset e.length))
      (if judgeChunks r (requestedChunks e.offset e.length) = .ok then readData e.offset e.length r else [])).reportRead
        e.source r (poisonedAmong r (requestedChunks e.offset e.length))).handOn e.source r true := rfl

end Sys2Proof.Machine

namespace Sys2Proof.Proofs

open Sys2Proof.Machine

/-- Settles O16: the answer follows the judgement of the requested chunks, and the rest is what every answered line
read comes to. -/
theorem readIsAnsweredByItsRequestedChunks : Obligations.ReadIsAnsweredByItsRequestedChunks := by
  intro s n line l p t count e stored hout hslot he hop hphase hl hservice r requested
  obtain ⟨-, rfl, rfl⟩ := entryOf_name s p t e he
  let status := judgeChunks r requested
  let data := if status = .ok then readData e.offset e.length r else []
  have hu := answeredAndHandedOn s n (drawsOf s.draws .lineRead stored) e
    ⟨portOrigin e.port, some e.tag, e.home, l, e.position⟩ r requested status data
  obtain ⟨later, hevents, hlater⟩ := hu.events
  refine ⟨_, status, data, later, ?_, hu.out, ?_, ?_, ?_, hu.tt, hu.memory, hu.counters, hevents, hlater, hu.quiesce,
    hu.handed, hu.frame⟩
  · rw [exec_done_entry s n _ line l e count hout hslot he,
      endEntry_read (s.vacated n _) e r hservice hphase hop, endRead_eq, Entry.source_eq e l hl]
  · intro hp
    have hstatus : status = .errPoison := judgeChunks_poisoned r requested hp
    exact ⟨hstatus, if_neg (by simp [hstatus])⟩
  · intro hp hunc
    have hstatus : status = .errUncorr := judgeChunks_uncorrectable r requested hp hunc
    exact ⟨hstatus, if_neg (by simp [hstatus])⟩
  · intro hp
    have hstatus : status = .ok := judgeChunks_ok r requested hp
    have hdata : data = readData e.offset e.length r := if_pos hstatus
    rw [hdata]
    exact ⟨hstatus, by simp [readData], fun i hi c d hc hd => readData_getElem? e.offset e.length r i hi c d hc hd⟩

/-- Settles O18: the judgement of the partly covered chunks refuses the write, and the rest is what every answered
line read comes to. -/
theorem damagedPartlyCoveredChunkRefusesTheWrite : Obligations.DamagedPartlyCoveredChunkRefusesTheWrite := by
  intro s n line l p t count e cls bytes stored hout hslot he hop hphase hl hservice r partly hdamaged
  obtain ⟨-, rfl, rfl⟩ := entryOf_name s p t e he
  have hstatus := judgeChunks_refused r partly hdamaged
  have hnot : judgeChunks r partly ≠ .ok := by
    rw [hstatus]
    split_ifs <;> simp
  have hu := answeredAndHandedOn s n (drawsOf s.draws .lineRead stored) e
    ⟨portOrigin e.port, some e.tag, e.home, l, e.position⟩ r partly (judgeChunks r partly) []
  obtain ⟨later, hevents, hlater⟩ := hu.events
  refine ⟨_, later, ?_, ?_, hu.tt, hu.memory, hu.counters, hevents, hlater, hu.quiesce, hu.handed, hu.frame⟩
  · rw [exec_done_entry s n _ line l e count hout hslot he,
      endEntry_readPhase (s.vacated n _) e r cls bytes hservice hphase hop,
      endReadPhase_refused (s.vacated n _) e bytes r hnot, Entry.source_eq e l hl]
  · rw [← hstatus]
    exact hu.out

end Sys2Proof.Proofs
end

section
/-! PROOFS. A PARTIAL write that proceeds from its read phase (R53, R54, R58, R59). -/

-- One declaration after the other: side by side, the threads with their stacks outgrow the memory of the check.
set_option Elab.async false

namespace Sys2Proof.Machine

/-- The entries besides one are the same when the entries are. -/
theorem others_sameButPhases {s u : State} (h : SameButPhases u.tt s.tt) (p : Port) (t : Tag) :
    SameButPhases (u.others p t) (s.others p t) := by
  have hfilter (l : List Entry) : (l.filter fun e => !(e.port == p && e.tag == t)).map Entry.unphased =
      (l.map Entry.unphased).filter fun e => !(e.port == p && e.tag == t) := by
    rw [List.filter_map]
    rfl
  rw [SameButPhases, State.others, State.others, hfilter, hfilter, h]

/-- An update of one entry that leaves its name leaves the others. -/
theorem others_updateEntry (s : State) (p : Port) (t : Tag) (f : Entry → Entry)
    (hf : ∀ e, (f e).port = e.port ∧ (f e).tag = e.tag) : (s.updateEntry p t f).others p t = s.others p t := by
  unfold State.others State.updateEntry
  dsimp only
  induction s.tt with
  | nil => rfl
  | cons e l ih =>
    rw [List.map_cons]
    by_cases hname : (e.port == p && e.tag == t) = true
    · rw [if_pos hname, List.filter_cons_of_neg (by simpa [hf e] using hname),
        List.filter_cons_of_neg (by simpa using hname), ih]
    · rw [if_neg hname, List.filter_cons, List.filter_cons, ih]

/-- R30, R58: an entry that keeps its read result is WRITE_READY, or WAITING while a hazard holds it. -/
theorem merged_after_settling (y : State) (e : Entry) (r : LineResult) (h : Entry.merge r e ∈ y.tt) :
    ∃ e' ∈ y.settled.tt, e' = { e with phase := e'.phase, slot := none, readResult := some r } ∧
      (HeldByHazard y.settled e' → e'.phase = .waiting) ∧ (¬ HeldByHazard y.settled e' → e'.phase = .writeReady) := by
  have htt : y.quiesceEnd.tt = y.tt := by rw [quiesceEnd_eq]
  let e' : Entry := { Entry.merge r e with phase := y.quiesceEnd.phaseNow (Entry.merge r e) }
  have hmem : e' ∈ y.settled.tt := (mem_relook y.quiesceEnd e').2 ⟨Entry.merge r e, htt ▸ h, rfl⟩
  have hissued : e'.isIssued = false := isIssued_phaseNow y.quiesceEnd (Entry.merge r e)
  have hlaw : e'.phase = y.settled.phaseNow e' := phaseLaw_relook y.quiesceEnd e' hmem
  refine ⟨e', hmem, rfl, fun hheld => ?_, fun hheld => ?_⟩
  · exact hlaw.trans (phaseNow_held _ e' hissued hheld)
  · exact hlaw.trans ((phaseNow_unheld _ e' hissued hheld).trans (if_neg (by simp [e', Entry.merge])))

theorem proceeding_reported (s : State) (n : SlotNumber) (d : Nat) (e : Entry) (src : ReadSource) (r : LineResult) :
    ((s.vacated n d).updateEntry e.port e.tag (Entry.merge r)).reportRead src r [] =
      (s.reported (s.slotFreed n) s.tt .none src r []).withTable (s.updateEntry e.port e.tag (Entry.merge r)).tt d :=
  reportRead_eq _ src r []

end Sys2Proof.Machine

namespace Sys2Proof.Proofs

open Sys2Proof.Machine

/-- Settles O19: the entry keeps its read result, and a hand-on without a repair offer does not look at the
entries. -/
theorem proceedingPartialWriteKeepsItsReadResult : Obligations.ProceedingPartialWriteKeepsItsReadResult := by
  intro s n line l p t count e cls bytes stored hout hslot he hop hphase hl hservice r hclean
  obtain ⟨hmem, rfl, rfl⟩ := entryOf_name s p t e he
  let src : ReadSource := ⟨portOrigin e.port, some e.tag, e.home, l, e.position⟩
  let x := s.reported (s.slotFreed n) s.tt .none src r []
  let tt := (s.updateEntry e.port e.tag (Entry.merge r)).tt
  let d := drawsOf s.draws .lineRead stored
  have hexec : exec (.completion n (.done stored)) s = .next (((x.suspectAndSpare src r).withTable tt d).settled) := by
    rw [exec_done_entry s n _ line l e count hout hslot he,
      endEntry_readPhase (s.vacated n _) e r cls bytes hservice hphase hop,
      endReadPhase_proceeding (s.vacated n _) e bytes r (judgeChunks_ok r _ hclean), Entry.source_eq e l hl,
      proceeding_reported, handOn_not_offering, suspectAndSpare_withTable]
  rw [hexec]
  have hmerged : Entry.merge r e ∈ tt := List.mem_map.2 ⟨e, hmem, if_pos (by simp)⟩
  obtain ⟨e', he', heq', hheld, hunheld⟩ :=
    merged_after_settling ((x.suspectAndSpare src r).withTable tt d) e r hmerged
  have htt := settled_sameButPhases ((x.suspectAndSpare src r).withTable tt d)
  have hq := settled_quiesceEnds ((x.suspectAndSpare src r).withTable tt d)
  generalize hu : ((x.suspectAndSpare src r).withTable tt d).settled = u at he' hheld hunheld htt hq ⊢
  have heq := settled_withTable_eq (x.suspectAndSpare src r) tt d u hu
  have hframe := suspectAndSpare_eq x src r
  obtain ⟨later, hlater, hkinds⟩ := suspectAndSpare_offers x src r
  have hmemory : u.memory = s.slotFreed n := by
    rw [heq, hframe]
    rfl
  have hcounters : u.counters = x.counters := by rw [heq, hframe]
  refine ⟨u, later, e', rfl, hmemory, he', heq', ?_, hheld, hunheld, ?_, ?_, hkinds, ?_, ?_, ?_⟩
  · exact (others_sameButPhases (s := s.updateEntry e.port e.tag (Entry.merge r)) htt e.port e.tag).trans
      (congrArg _ (others_updateEntry s e.port e.tag (Entry.merge r) fun _ => ⟨rfl, rfl⟩))
  · rw [hcounters]
    simp [x, State.reported]
  · rw [heq]
    exact hlater
  · rw [hframe] at hq
    exact hq
  · intro reported
    have hreported : reported = x := by
      simp only [reported]
      rw [hmemory, hcounters]
      rfl
    rw [hreported]
    exact heq
  · rw [hframe] at heq
    rw [hmemory, hcounters, heq]
    rfl

end Sys2Proof.Proofs
end

section
/-! PROOFS. The ends of the engine's copy operations (6.2.3, 6.2.4): commit, revert and their reports. -/

-- One declaration after the other: side by side, the threads with their stacks outgrow the memory of the check.
set_option Elab.async false

namespace Sys2Proof.Machine

section
variable (s : State)

theorem endCopyRead_aborting (m : Migration) (o : Option SlotNumber) (result : Option LineResult)
    (he : s.engine = .copyRead m o) (hs : s.service = .aborting) : s.endCopyRead result = s.revert m .available := by
  simp only [State.endCopyRead, he, hs, if_true]

theorem endCopyRead_failed (m : Migration) (o : Option SlotNumber) (he : s.engine = .copyRead m o)
    (hs : s.service ≠ .aborting) : s.endCopyRead none = s.failMigration m .read .available := by
  simp only [State.endCopyRead, he, hs, if_false]

/-- The engine's context after a copy read that is DONE. -/
def State.copied (s : State) (m : Migration) (content : Vector ChunkContent 8) : State :=
  { s with engine := .copyWrite m none content }

theorem endCopyRead_done (m : Migration) (o : Option SlotNumber) (r : LineResult) (he : s.engine = .copyRead m o)
    (hs : s.service ≠ .aborting) : s.endCopyRead (some r) = s.copied m (perChunk fun c => copyContent r[c]) := by
  simp only [State.endCopyRead, he, hs, if_false]
  rfl

theorem endCopyWrite_done (m : Migration) (o : Option SlotNumber) (content : Vector ChunkContent 8)
    (he : s.engine = .copyWrite m o content) : s.endCopyWrite true = s.commit m := by
  simp only [State.endCopyWrite, he, if_true]

theorem endCopyWrite_failed (m : Migration) (o : Option SlotNumber) (content : Vector ChunkContent 8)
    (he : s.engine = .copyWrite m o content) : s.endCopyWrite false = s.failMigration m .write .retired := by
  simp only [State.endCopyWrite, he, Bool.false_eq_true, if_false]

/-- Out of QUIESCE, what follows every end changes the entries' phases alone. -/
theorem settled_tt (h : ∀ m, s.engine ≠ .quiesce m) : s.settled = { s with tt := s.settled.tt } := by
  have heq := settled_eq s
  rwa [settled_engine s h] at heq

theorem settled_of_eq {y x : State} (hy : y = x) (h : ∀ m, x.engine ≠ .quiesce m) :
    y.settled = { x with tt := y.settled.tt } := hy ▸ settled_tt x h

/-- R94. -/
theorem settled_revert (m : Migration) (v : SpareState) :
    SameButPhases (s.revert m v).settled.tt s.tt ∧
    (s.revert m v).settled = { s with
      engine := .idle, tt := (s.revert m v).settled.tt
      map := s.map.set m.entry.1 m.reverted m.entry.2, spares := s.spares.set m.new v } :=
  ⟨(settled_sameButPhases _).trans (relook_sameButPhases _), settled_tt (s.revert m v) fun _ => nofun⟩

/-- R115, R118. -/
def migrationFailed (m : Migration) (g : Stage) : Event :=
  { kind := .migrationFailed, origin := .migration, location := some (m.old.location m.home),
    detail := some (.stage g) }

theorem failMigration_eq (m : Migration) (g : Stage) (v : SpareState) :
    s.failMigration m g v = { s with
      engine := .idle, tt := (s.revert m v).tt
      map := s.map.set m.entry.1 m.reverted m.entry.2, spares := s.spares.set m.new v
      events := s.events.offer s.cfg.eventMask (migrationFailed m g)
      counters := { s.counters with migrationsFailed := saturatingNext s.counters.migrationsFailed } } := rfl

theorem settled_failMigration (m : Migration) (g : Stage) (v : SpareState) :
    SameButPhases (s.failMigration m g v).settled.tt s.tt ∧
    (s.failMigration m g v).settled = { s with
      engine := .idle, tt := (s.failMigration m g v).settled.tt
      map := s.map.set m.entry.1 m.reverted m.entry.2, spares := s.spares.set m.new v
      events := s.events.offer s.cfg.eventMask (migrationFailed m g)
      counters := { s.counters with migrationsFailed := advanced s.counters.migrationsFailed true } } := by
  have heq := failMigration_eq s m g v
  have htt : SameButPhases (s.failMigration m g v).tt s.tt := by
    rw [heq]
    exact relook_sameButPhases _
  rw [← saturatingNext_eq_advanced]
  exact ⟨(settled_sameButPhases _).trans htt, settled_of_eq heq fun _ => nofun⟩

/-- R93. -/
theorem retireOld_eq (old : OldTarget) :
    s.retireOld old = { s with spares := match old with
      | .home => s.spares
      | .spare a => s.spares.set a .retired } := by
  cases old <;> rfl

/-- R117. -/
theorem commit_eq (m : Migration) :
    s.commit m = { s with
      engine := .idle, tt := (s.commit m).tt
      map := s.map.set m.entry.1 (.active m.home m.new) m.entry.2
      spares := (s.retireOld m.old).spares
      suspects := s.suspects.filter fun r => r.location != m.old.location m.home
      events := s.events.offer s.cfg.eventMask
        { kind := .spared, origin := .migration, location := some (m.old.location m.home),
          detail := some (.spare m.new) }
      counters := { s.counters with migrationsDone := saturatingNext s.counters.migrationsDone } } := by
  unfold State.commit
  rw [retireOld_eq, retireOld_eq]
  rfl

theorem settled_commit (m : Migration) :
    SameButPhases (s.commit m).settled.tt s.tt ∧
    (s.commit m).settled = { s with
      engine := .idle, tt := (s.commit m).settled.tt
      map := s.map.set m.entry.1 (.active m.home m.new) m.entry.2
      spares := (s.retireOld m.old).spares
      suspects := s.suspects.filter fun r => r.location != m.old.location m.home
      events := s.events.offer s.cfg.eventMask
        { kind := .spared, origin := .migration, location := some (m.old.location m.home),
          detail := some (.spare m.new) }
      counters := { s.counters with migrationsDone := advanced s.counters.migrationsDone true } } := by
  have htt : SameButPhases (s.commit m).tt s.tt := by
    refine (relook_sameButPhases _).trans ?_
    simp
  rw [← saturatingNext_eq_advanced]
  exact ⟨(settled_sameButPhases _).trans htt, settled_of_eq (commit_eq s m) fun _ => nofun⟩

end

theorem perChunk_get {α : Type} (f : ChunkNumber → α) (c : ChunkNumber) : (perChunk f)[c] = f c := by
  fin_cases c <;> rfl

theorem copyContent_of_supplied (x : ChunkResult) :
    (∀ d, x.supplied = some d → copyContent x = .data d) ∧ (x.supplied = none → copyContent x = .poison) := by
  cases x <;> simp [ChunkResult.supplied, copyContent]

end Sys2Proof.Machine

namespace Sys2Proof.Proofs

open Sys2Proof.Machine

/-- Settles O27: the copy content, or the reverted entry, by the service state and the status. -/
theorem copyReadEnds : Obligations.CopyReadEnds := by
  intro s n line l count m hout hslot he
  refine ⟨m.reverted_of_home, m.reverted_of_spare, fun stored hs => ?_, fun hs => ?_, fun status hs => ?_⟩
  · let r := classifyLine (completedLine s.draws stored)
    let y := (s.vacated n (drawsOf s.draws .lineRead stored)).copied m (perChunk fun c => copyContent r[c])
    have heq := settled_tt y fun _ => nofun
    refine ⟨y.settled, perChunk fun c => copyContent r[c], ?_, fun c => ?_, settled_sameButPhases y, heq.trans ?_⟩
    · rw [exec_done s n _ line l _ count stored hout hslot, endOperation_copyRead]
      exact congrArg (fun y : State => Host.Outcome.next y.settled) (endCopyRead_done (s.vacated n _) m _ r he hs)
    · rw [perChunk_get]
      exact copyContent_of_supplied _
    · rw [heq]
      rfl
  · obtain ⟨htt, heq⟩ := settled_failMigration (s.vacated n s.draws) m .read .available
    refine ⟨_, ?_, htt, heq⟩
    rw [exec_failed_engine s n _ line l _ count hout hslot rfl, endOperation_copyRead]
    exact congrArg (fun y : State => Host.Outcome.next y.settled) (endCopyRead_failed (s.vacated n _) m _ he hs)
  · cases status with
    | done stored =>
      let y := s.vacated n (drawsOf s.draws .lineRead stored)
      obtain ⟨htt, heq⟩ := settled_revert y m .available
      refine ⟨(y.revert m .available).settled, ?_, htt, heq.trans ?_⟩
      · rw [exec_done s n _ line l _ count stored hout hslot, endOperation_copyRead]
        exact congrArg (fun y : State => Host.Outcome.next y.settled) (endCopyRead_aborting y m _ _ he hs)
      · rw [heq]
        rfl
    | failed =>
      let y := s.vacated n s.draws
      obtain ⟨htt, heq⟩ := settled_revert y m .available
      refine ⟨(y.revert m .available).settled, ?_, htt, heq.trans ?_⟩
      · rw [exec_failed_engine s n _ line l _ count hout hslot rfl, endOperation_copyRead]
        exact congrArg (fun y : State => Host.Outcome.next y.settled) (endCopyRead_aborting y m _ _ he hs)
      · rw [heq]
        rfl

/-- Settles O28: the commit, or the reverted entry with the new spare retired. -/
theorem copyWriteEnds : Obligations.CopyWriteEnds := by
  intro s n line l count m content hout hslot he
  refine ⟨m.reverted_of_home, m.reverted_of_spare, fun stored => ?_, ?_⟩
  · obtain ⟨htt, heq⟩ := settled_commit (s.vacated n s.draws) m
    refine ⟨_, ?_, htt, heq.trans ?_⟩
    · rw [exec_done s n _ line l _ count stored hout hslot, drawsOf_chunkWrite, endOperation_copyWrite]
      exact congrArg (fun y : State => Host.Outcome.next y.settled)
        (endCopyWrite_done (s.vacated n s.draws) m _ content he)
    · rw [retireOld_eq]
      rfl
  · obtain ⟨htt, heq⟩ := settled_failMigration (s.vacated n s.draws) m .write .retired
    refine ⟨_, ?_, htt, heq⟩
    rw [exec_failed_engine s n _ line l _ count hout hslot rfl, endOperation_copyWrite]
    exact congrArg (fun y : State => Host.Outcome.next y.settled)
      (endCopyWrite_failed (s.vacated n s.draws) m _ content he)

end Sys2Proof.Proofs
end

section
/-! PROOFS. The end of the scrub read (8.2): the cursor, the pass end, and the scrub read ceasing. -/

-- One declaration after the other: side by side, the threads with their stacks outgrow the memory of the check.
set_option Elab.async false

namespace Sys2Proof.Machine

section
variable (s : State)

/-- R152: is the cursor's line the last one? -/
def State.atLastLine : Bool := decide (s.visibleLines ≤ s.scrub.cursor + 1)

/-- R153: the event of a pass end. -/
def passEvents (last : Bool) : List Event := if last then [{ kind := .scrubPass, origin := .scrub }] else []

/-- R152, R153: the cursor moves on, and past the last line the pass ends. -/
theorem advanceCursor_eq :
    s.advanceCursor = { s with
      scrub := { s.scrub with cursor := if s.atLastLine then 0 else s.scrub.cursor + 1 }
      suspects := if s.atLastLine then ageSuspects s.suspects else s.suspects
      counters := { s.counters with scrubPasses := advanced s.counters.scrubPasses s.atLastLine }
      events := s.events.offers s.cfg.eventMask (passEvents s.atLastLine) } := by
  unfold State.advanceCursor
  by_cases h : s.scrub.cursor + 1 < s.visibleLines
  · have hlast : s.atLastLine = false := decide_eq_false (by omega)
    rw [if_pos h, hlast, advanced_false]
    rfl
  · have hlast : s.atLastLine = true := decide_eq_true (by omega)
    rw [if_neg h, hlast, ← saturatingNext_eq_advanced]
    rfl

/-- R151, R154, R155: the scrub with no read. -/
def State.scrubCeased (cursor : Nat) : Scrub :=
  ⟨if s.service = .running then .waiting else .off, cursor, s.scrub.countdown, none⟩

theorem scrubCeased_aborting (cursor : Nat) (hs : s.service = .aborting) :
    s.scrubCeased cursor = ⟨.off, cursor, s.scrub.countdown, none⟩ := by
  simp [State.scrubCeased, hs]

theorem ceaseScrubRead_sameButPhases : SameButPhases s.ceaseScrubRead.tt s.tt := relook_sameButPhases _

/-- R155: in ABORTING the cursor stays. -/
theorem settled_cease :
    SameButPhases s.ceaseScrubRead.settled.tt s.tt ∧ QuiesceEnds s.engine s.ceaseScrubRead.settled ∧
    s.ceaseScrubRead.settled = { s with
      tt := s.ceaseScrubRead.settled.tt, engine := s.ceaseScrubRead.settled.engine
      scrub := s.scrubCeased s.scrub.cursor } :=
  ⟨(settled_sameButPhases _).trans (ceaseScrubRead_sameButPhases s), settled_quiesceEnds s.ceaseScrubRead,
    settled_eq s.ceaseScrubRead⟩

/-- R151, R152, R153: else the cursor moves on first. -/
theorem settled_advanceCursor :
    SameButPhases s.advanceCursor.ceaseScrubRead.settled.tt s.tt ∧
    QuiesceEnds s.engine s.advanceCursor.ceaseScrubRead.settled ∧
    s.advanceCursor.ceaseScrubRead.settled = { s with
      tt := s.advanceCursor.ceaseScrubRead.settled.tt, engine := s.advanceCursor.ceaseScrubRead.settled.engine
      scrub := s.scrubCeased (if s.atLastLine then 0 else s.scrub.cursor + 1)
      suspects := if s.atLastLine then ageSuspects s.suspects else s.suspects
      counters := { s.counters with scrubPasses := advanced s.counters.scrubPasses s.atLastLine }
      events := s.events.offers s.cfg.eventMask (passEvents s.atLastLine) } := by
  obtain ⟨htt, hq, heq⟩ := settled_cease s.advanceCursor
  generalize s.advanceCursor.ceaseScrubRead.settled = u at htt hq heq ⊢
  rw [advanceCursor_eq] at htt hq heq
  exact ⟨htt, hq, heq⟩

variable (h position : Nat) (l : Location) (n : SlotNumber) (hread : s.scrub.read = some ⟨h, position, some (l, n)⟩)
include hread

theorem endScrubRead_aborting (result : Option LineResult) (hs : s.service = .aborting) :
    s.endScrubRead result = s.ceaseScrubRead := by
  simp only [State.endScrubRead, hread, hs, if_true]

theorem endScrubRead_failed (hs : s.service ≠ .aborting) :
    s.endScrubRead none = s.advanceCursor.ceaseScrubRead := by
  simp only [State.endScrubRead, hread, hs, if_false]

theorem endScrubRead_done (r : LineResult) (hs : s.service ≠ .aborting) :
    s.endScrubRead (some r) =
      ((s.reportRead ⟨.scrub, none, h, l, position⟩ r []).handOn ⟨.scrub, none, h, l, position⟩ r
        true).advanceCursor.ceaseScrubRead := by
  simp only [State.endScrubRead, hread, hs, if_false]
  rfl

end

/-- The bridge whose scrub read is DONE and handed on, before the cursor moves. -/
def State.scrubHanded (s : State) (n : SlotNumber) (src : ReadSource) (r : LineResult) : State :=
  (s.reported (s.slotFreed n) s.tt .none src r []).handOn src r true

theorem exec_done_scrub (s : State) (n : SlotNumber) (line : Nat) (l : Location) (count h position : Nat)
    (stored : Option StoredLine) (hout : OutOfReset s) (hslot : s.memory.slots[n] = .busy .lineRead line l .scrub count)
    (hread : s.scrub.read = some ⟨h, position, some (l, n)⟩) (hs : s.service ≠ .aborting) :
    exec (.completion n (.done stored)) s = .next
      ((s.scrubHanded n ⟨.scrub, none, h, l, position⟩ (classifyLine (completedLine s.draws stored))).withDraws
        (drawsOf s.draws .lineRead stored)).advanceCursor.ceaseScrubRead.settled := by
  rw [exec_done s n _ line l _ count stored hout hslot, endOperation_scrub, State.scrubHanded, ← handOn_withDraws]
  refine congrArg (fun y : State => Host.Outcome.next y.settled)
    ((endScrubRead_done (s.vacated n _) h position l n hread _ hs).trans ?_)
  rw [reportRead_eq]
  rfl

theorem exec_failed_scrub (s : State) (n : SlotNumber) (line : Nat) (l : Location) (count : Nat)
    (hout : OutOfReset s) (hslot : s.memory.slots[n] = .busy .lineRead line l .scrub count) :
    exec (.completion n .failed) s =
      .next (((s.vacated n s.draws).offer (downstreamFailed n l)).endScrubRead none).settled := by
  rw [exec_failed s n _ line l _ count hout hslot rfl, endOperation_scrub]
  rfl

end Sys2Proof.Machine

namespace Sys2Proof.Proofs

open Sys2Proof.Machine

/-- Settles O37: the hand-on comes before the cursor moves, so the pass end ages the Suspect List it leaves. -/
theorem scrubReadEnds : Obligations.ScrubReadEnds := by
  intro s n line l count h position hout hslot hread last pass
  have hlast : last = s.atLastLine := rfl
  refine ⟨?_, fun hs => ?_, fun status hs => ?_⟩
  · intro stored hs r
    let src : ReadSource := ⟨.scrub, none, h, l, position⟩
    let x := s.reported (s.slotFreed n) s.tt .none src r []
    rw [exec_done_scrub s n line l count h position stored hout hslot hread hs]
    obtain ⟨htt, hq, heq⟩ :=
      settled_advanceCursor ((s.scrubHanded n src r).withDraws (drawsOf s.draws .lineRead stored))
    obtain ⟨middle, hmiddle, hkinds⟩ := handOn_offers x src r
    have hframe : s.scrubHanded n src r = _ := handOn_eq x src r true
    generalize hu : State.settled _ = u at htt hq heq ⊢
    have hlast : ((s.scrubHanded n src r).withDraws (drawsOf s.draws .lineRead stored)).atLastLine = last := by
      rw [hframe]
      rfl
    rw [hlast] at heq
    have hmemory : u.memory = s.slotFreed n := by
      rw [heq, hframe]
      rfl
    have hcounters : u.counters = { x.counters with
        repairsDropped := u.counters.repairsDropped
        scrubPasses := advanced s.counters.scrubPasses last } := by
      have hz : (s.scrubHanded n src r).counters =
          { x.counters with repairsDropped := (s.scrubHanded n src r).counters.repairsDropped } :=
        handOn_counters x src r
      rw [heq]
      simp only [State.withDraws]
      rw [hz]
      rfl
    have hx : { s with
        memory := u.memory, out := .none
        counters := { s.counters with
          correctedReads := u.counters.correctedReads, uncorrectableReads := u.counters.uncorrectableReads }
        events := s.events.offers s.cfg.eventMask (readEvents .scrub none l r []) } = x := by
      rw [hmemory, hcounters]
      simp [x, State.reported, src]
    have hmask : (s.scrubHanded n src r).cfg.eventMask = s.cfg.eventMask := by
      rw [hframe]
      rfl
    have hevents : u.events =
        (s.scrubHanded n src r).events.offers (s.scrubHanded n src r).cfg.eventMask pass := congrArg State.events heq
    refine ⟨u, middle, rfl, hmemory, ?_, ?_, ?_, hkinds, ?_, ?_, ?_, ?_⟩
    · rw [hframe] at htt
      exact htt
    · rw [heq, hframe]
      rfl
    · rw [hevents, hmask]
      exact congrArg (fun q : EventQueue => q.offers s.cfg.eventMask pass) hmiddle
    · rw [hcounters]
      simp [x, State.reported]
    · intro reported handed
      have hhanded : handed = s.scrubHanded n src r := congrArg (State.handOn · src r true) hx
      have hdraws : u.draws = drawsOf s.draws .lineRead stored := by
        rw [heq, hframe]
        rfl
      have hpasses : u.counters.scrubPasses = advanced (s.scrubHanded n src r).counters.scrubPasses last := by
        rw [heq]
        rfl
      have hscrub : u.scrub = State.scrubCeased ((s.scrubHanded n src r).withDraws _) _ := congrArg State.scrub heq
      rw [hhanded, hdraws, hpasses, hscrub, ← hmask]
      exact heq
    · rw [hframe] at hq
      exact hq
    · rw [hframe] at heq
      rw [heq]
      rfl
  · obtain ⟨htt, hq, heq⟩ := settled_advanceCursor ((s.vacated n s.draws).offer (downstreamFailed n l))
    refine ⟨_, (exec_failed_scrub s n line l count hout hslot).trans ?_, htt, hq, heq⟩
    rw [endScrubRead_failed ((s.vacated n s.draws).offer _) h position l n hread hs]
  · have hoff : s.scrubCeased s.scrub.cursor = ⟨.off, s.scrub.cursor, s.scrub.countdown, none⟩ :=
      scrubCeased_aborting s _ hs
    rw [← hoff]
    cases status with
    | done stored =>
      obtain ⟨htt, hq, heq⟩ := settled_cease (s.vacated n (drawsOf s.draws .lineRead stored))
      refine ⟨_, ?_, htt, hq, heq.trans ?_⟩
      · rw [exec_done s n _ line l _ count stored hout hslot, endOperation_scrub,
          endScrubRead_aborting (s.vacated n _) h position l n hread _ hs]
      · rw [heq]
        rfl
    | failed =>
      obtain ⟨htt, hq, heq⟩ := settled_cease ((s.vacated n s.draws).offer (downstreamFailed n l))
      refine ⟨_, (exec_failed_scrub s n line l count hout hslot).trans ?_, htt, hq, heq.trans ?_⟩
      · rw [endScrubRead_aborting ((s.vacated n s.draws).offer _) h position l n hread _ hs]
      · rw [heq]
        rfl

end Sys2Proof.Proofs
end

section
/-! PROOFS. The expiry of a slot (7.4, R137, R138): an operation that ends as a failure for its requester. -/

-- One declaration after the other: side by side, the threads with their stacks outgrow the memory of the check.
set_option Elab.async false

namespace Sys2Proof.Machine

/-- The end of an operation as a failure adds events after those of before and leaves the count of expiries. -/
def ReportsAfter (s u : State) : Prop :=
  (∃ later, u.events = s.events.offers s.cfg.eventMask later) ∧
    u.counters.downstreamTimeouts = s.counters.downstreamTimeouts

section
variable (s : State)

theorem ReportsAfter.none (u : State) (events : u.events = s.events) (counters : u.counters = s.counters) :
    ReportsAfter s u := ⟨⟨[], events⟩, by rw [counters]⟩

theorem ReportsAfter.settled {s u : State} (h : ReportsAfter s u) : ReportsAfter s u.settled := by
  have heq := settled_eq u
  generalize u.settled = w at heq ⊢
  rw [heq]
  exact h

theorem failMigration_reports (m : Migration) (g : Stage) (v : SpareState) :
    ReportsAfter s (s.failMigration m g v) := ⟨⟨[_], rfl⟩, rfl⟩

/-- R52, R60, R62. -/
theorem endEntry_failure_eq (e : Entry) :
    s.endEntry e .failure = s.answer e (if s.service = .aborting then .aborted else .errMemory) [] := by
  by_cases hs : s.service = .aborting
  · rw [endEntry_aborting s e _ hs, if_pos hs]
  · rw [endEntry_failure s e hs, if_neg hs]

theorem endEntry_failure_reports (e : Entry) : ReportsAfter s (s.endEntry e .failure) := by
  rw [endEntry_failure_eq, answer_eq]
  exact .none s _ rfl rfl

theorem advanceCursor_reports : ReportsAfter s s.advanceCursor := by
  rw [advanceCursor_eq]
  exact ⟨⟨_, rfl⟩, rfl⟩

theorem endScrubRead_none_reports : ReportsAfter s (s.endScrubRead none) := by
  unfold State.endScrubRead
  split
  · split
    · exact .none s _ rfl rfl
    · exact advanceCursor_reports s
  · exact .none s _ rfl rfl
  · exact .none s _ rfl rfl

theorem endCopyRead_none_reports : ReportsAfter s (s.endCopyRead none) := by
  unfold State.endCopyRead
  cases s.engine with
  | copyRead m o =>
    dsimp only
    split_ifs
    · exact .none s _ rfl rfl
    · exact failMigration_reports s m _ _
  | _ => exact .none s _ rfl rfl

theorem endCopyWrite_false_reports : ReportsAfter s (s.endCopyWrite false) := by
  unfold State.endCopyWrite
  cases s.engine with
  | copyWrite m o content => exact failMigration_reports s m _ _
  | _ => exact .none s _ rfl rfl

theorem endOperation_failure_reports (n : SlotNumber) (q : Requester) :
    ReportsAfter s (s.endOperation n q .failure) := by
  cases q with
  | entry p t =>
    cases he : s.entryOf p t with
    | some e =>
      rw [endOperation_entry s n _ p t e he]
      exact (endEntry_failure_reports s e).settled
    | none =>
      have hnone : s.endOperation n (.entry p t) .failure = s.settled := by
        simp only [State.endOperation, he]
        rfl
      rw [hnone]
      exact (ReportsAfter.none s s rfl rfl).settled
  | repair h => exact (ReportsAfter.none s (s.endRepair n .failure) rfl rfl).settled
  | scrub => exact (endScrubRead_none_reports s).settled
  | copyRead => exact (endCopyRead_none_reports s).settled
  | copyWrite => exact (endCopyWrite_false_reports s).settled

/-! ## SLOT_EXPIRY -/

/-- R137: the bridge after the slot is ORPHANED, counted and reported. -/
def State.expired (n : SlotNumber) (kind : OpKind) (line : Nat) (l : Location) : State :=
  { s with
    out := .none
    memory := { s.memory with slots := s.memory.slots.set n.1 (.orphaned kind line l) n.2 }
    counters := { s.counters with downstreamTimeouts := advanced s.counters.downstreamTimeouts true }
    events := s.events.offer s.cfg.eventMask
      { kind := .downstreamTimeout, origin := .memoryPort, location := some l, detail := some (.slot n) } }

theorem exec_slotExpiry (n : SlotNumber) (hout : OutOfReset s) :
    exec (.slotExpiry n) s = .next (s.quiet.expireIfDue n) := by
  have harm : exec (.slotExpiry n) s = execSlotExpiry n s := rfl
  rw [harm, execSlotExpiry, s.unlessReset_out _ hout]

theorem exec_slotExpiry_due (n : SlotNumber) (hout : OutOfReset s) (kind : OpKind) (line : Nat) (l : Location)
    (q : Requester) (count : Nat) (hslot : s.memory.slots[n] = .busy kind line l q count)
    (hon : s.cfg.downstreamTimeout ≠ 0) (hreached : s.cfg.downstreamTimeout ≤ count) :
    exec (.slotExpiry n) s = .next ((s.expired n kind line l).endOperation n q .failure) := by
  have hquiet : s.quiet.memory.slots[n] = .busy kind line l q count := hslot
  have hdue : s.quiet.expiryDue n = true := by
    simp only [State.expiryDue, hquiet]
    simp [hon, hreached]
  rw [exec_slotExpiry s n hout, State.expireIfDue, if_pos hdue]
  simp only [State.expire, hquiet]
  rw [State.expired, ← saturatingNext_eq_advanced]
  rfl

end

end Sys2Proof.Machine

namespace Sys2Proof.Proofs

open Sys2Proof.Machine

/-- Settles O34: the slot is ORPHANED and counted first, and the requester sees a failure. -/
theorem expiryOrphansTheSlot : Obligations.ExpiryOrphansTheSlot := by
  intro s n hout
  constructor
  · intro hdue
    have hquiet : ¬ s.quiet.expiryDue n = true := Bool.eq_false_iff.1 hdue
    rw [exec_slotExpiry s n hout, State.expireIfDue, if_neg hquiet]
  · intro kind line l q count hslot hon hreached expired last failed
    let y := s.expired n kind line l
    obtain ⟨hlater, htimeouts⟩ := endOperation_failure_reports y n q
    refine ⟨_, exec_slotExpiry_due s n hout kind line l q count hslot hon hreached, ?_, hlater, htimeouts, ?_, ?_, ?_,
      ?_, ?_⟩
    · have hmemory : (y.endOperation n q .failure).memory = y.memory := by simp
      exact hmemory
    · rintro p t e rfl he
      obtain ⟨-, rfl, rfl⟩ := entryOf_name s p t e he
      obtain ⟨hresponse, htt, hq, heq⟩ :=
        settled_answer y e (if s.service = .aborting then .aborted else .errMemory) [] _ rfl
      rw [endOperation_entry y n _ _ _ e he, endEntry_failure_eq]
      refine ⟨htt, hq, heq.trans ?_⟩
      rw [hresponse, respond_out_congr (t := s.quiet) (by rfl) _ _]
      rfl
    · rintro h rfl
      exact ⟨settled_sameButPhases _, settled_quiesceEnds (y.endRepair n .failure),
        settled_eq (y.endRepair n .failure)⟩
    · rintro ⟨h, position, -⟩ ⟨l', n'⟩ rfl hread rfl
      rw [endOperation_scrub]
      by_cases hs : s.service = .aborting
      · obtain ⟨htt, hq, heq⟩ := settled_cease y
        rw [show y.endScrubRead Ending.failure.result? = _ from
          endScrubRead_aborting y h position l' n' hread _ hs]
        have hoff : y.scrubCeased y.scrub.cursor = ⟨.off, s.scrub.cursor, s.scrub.countdown, none⟩ :=
          scrubCeased_aborting y _ hs
        rw [hoff] at heq
        exact ⟨htt, hq, fun hnot => absurd hs hnot, fun _ => heq⟩
      · obtain ⟨htt, hq, heq⟩ := settled_advanceCursor y
        rw [show y.endScrubRead Ending.failure.result? = _ from endScrubRead_failed y h position l' n' hread hs]
        exact ⟨htt, hq, fun _ => heq, fun haborting => absurd haborting hs⟩
    · rintro m rfl he
      rw [endOperation_copyRead]
      by_cases hs : s.service = .aborting
      · obtain ⟨htt, heq⟩ := settled_revert y m .available
        rw [show y.endCopyRead Ending.failure.result? = _ from endCopyRead_aborting y m _ _ he hs]
        exact ⟨htt, fun hnot => absurd hs hnot, fun _ => heq⟩
      · obtain ⟨htt, heq⟩ := settled_failMigration y m .read .available
        rw [show y.endCopyRead Ending.failure.result? = _ from endCopyRead_failed y m _ he hs]
        exact ⟨htt, fun _ => heq, fun haborting => absurd haborting hs⟩
    · rintro m content rfl he
      obtain ⟨htt, heq⟩ := settled_failMigration y m .write .retired
      rw [endOperation_copyWrite]
      rw [show y.endCopyWrite Ending.failure.isDone = _ from endCopyWrite_failed y m _ content he]
      exact ⟨htt, heq⟩

end Sys2Proof.Proofs
end

section
/-! PROOFS. The order of the grant classes (7.3, R131, R132): who asks and who is eligible, stated both ways. -/

-- One declaration after the other: side by side, the threads with their stacks outgrow the memory of the check.
set_option Elab.async false

namespace Sys2Proof.Machine

theorem Slot.excludes_iff (kind : OpKind) (line : Nat) (v : Slot) :
    v.excludes kind line = true ↔
      (∃ k l q count, v = .busy k line l q count ∧ (kind = .chunkWrite ∨ k = .chunkWrite)) ∨
        (kind = .chunkWrite ∧ ∃ l, v = .orphaned .chunkWrite line l) := by
  cases v with
  | free => simp [Slot.excludes]
  | busy k line' l q count => simp [Slot.excludes]
  | orphaned k line' l =>
    simp [Slot.excludes]
    tauto

theorem eligible_eq_false_iff (s : State) (c : Candidate) :
    s.eligible c = false ↔ ∃ n : SlotNumber, s.memory.slots[n].excludes c.kind (s.physicalLine c.location) = true := by
  simp only [State.eligible, List.all_eq_false, mem_slotNumbers, true_and, Bool.not_eq_true', Bool.not_eq_false]

section
variable (s : State)

/-! ## Who asks -/

theorem repairWaits_iff (h : Nat) :
    s.repairWaits h = true ↔
      (∃ e ∈ s.tt, e.home = h ∧ (e.phase = .issued ∨ e.phase = .issuedWrite)) ∨
        ∃ x ∈ s.scrub.read, x.home = h ∧ x.granted ≠ none := by
  cases hread : s.scrub.read <;>
    simp [State.repairWaits, hread, Entry.isIssued_iff, Option.isSome_iff_ne_none]

theorem repairCandidate_waiting (r : RepairRecord) (rest : List RepairRecord) (hq : s.repairs.queue = r :: rest)
    (h : s.repairWaits r.home = true) : s.repairCandidate = none := by
  simp only [State.repairCandidate, hq, h, if_true]

theorem repairCandidate_asking (r : RepairRecord) (rest : List RepairRecord) (hq : s.repairs.queue = r :: rest)
    (h : ¬ s.repairWaits r.home = true) (l : Location) (hl : s.resolve r.home = some l) :
    s.repairCandidate = some ⟨.writeBack, .repair r.home, .chunkWrite, l, r.chunks⟩ := by
  simp only [State.repairCandidate, hq, if_neg h, hl, Option.map_some]

theorem scrubHeld_iff (r : ScrubRead) :
    s.scrubHeld r = true ↔
      (∃ o ∈ s.tt, o.home = r.home ∧ o.op.isWrite = true ∧ o.position < r.position) ∨
      (∃ q ∈ s.repairs.queue, q.home = r.home ∧ q.position < r.position) ∨
      (∃ q ∈ s.repairs.issued, q.record.home = r.home) ∨ s.isMoving r.home = true := by
  simp [State.scrubHeld, State.hazardA, State.hazardC, Entry.isWrite, or_assoc, and_assoc]

theorem scrubCandidate_held (r : ScrubRead) (hread : s.scrub.read = some r)
    (h : r.granted ≠ none ∨ s.scrubHeld r = true) : s.scrubCandidate = none := by
  rw [← Option.isSome_iff_ne_none] at h
  simp only [State.scrubCandidate, hread, h, if_true]

theorem scrubCandidate_asking (r : ScrubRead) (hread : s.scrub.read = some r) (hgranted : r.granted = none)
    (hheld : ¬ s.scrubHeld r = true) (l : Location) (hl : s.resolve r.home = some l) :
    s.scrubCandidate = some ⟨.scrub, .scrub, .lineRead, l, []⟩ := by
  simp [State.scrubCandidate, hread, hgranted, hheld, hl]

/-- R42: a line that is not MOVING resolves. -/
theorem exists_resolve (h : Nat) (hmoving : ¬ s.isMoving h = true) : ∃ l, s.resolve h = some l := by
  unfold State.isMoving at hmoving
  unfold State.resolve
  cases hlookup : s.lookup h with
  | free => exact ⟨_, rfl⟩
  | active home k => exact ⟨_, rfl⟩
  | moving home old new =>
    rw [hlookup] at hmoving
    exact absurd rfl hmoving

theorem engineCandidate_eq_none (hread : ∀ m, s.engine ≠ .copyRead m none)
    (hwrite : ∀ m content, s.engine ≠ .copyWrite m none content) : s.engineCandidate = none := by
  cases h : s.engineCandidate with
  | none => rfl
  | some c =>
    rcases engineCandidate_eq_some s c h with ⟨m, he, -⟩ | ⟨m, content, he, -⟩
    · exact absurd he (hread m)
    · exact absurd he (hwrite m content)

/-! ## The choice -/

theorem filter_eq_none_iff_forall (o : Option Candidate) :
    o.filter s.eligible = none ↔ ∀ k, o = some k → s.eligible k = false := by
  cases o <;> simp

/-- R130, R132: nobody is chosen exactly when nobody eligible asks. -/
theorem chooseGrant_eq_none_iff (hs : s.service = .running ∨ s.service = .stopping) :
    s.chooseGrant = none ↔ s.engineCandidate.filter s.eligible = none ∧ s.writePhaseChoice = none ∧
      s.repairCandidate.filter s.eligible = none ∧ s.portChoice = none ∧ s.scrubChoice = none := by
  have hpromoted : s.scrubChoice = none → s.promotedScrub = none := fun h =>
    (promotedScrub_eq_none_iff s).2 fun _ => h
  simp only [State.chooseGrant, if_pos hs, Option.or_eq_none_iff]
  tauto

theorem eligibleEntry_eq_none_of_choices (hwrite : s.writePhaseChoice = none) (hport : s.portChoice = none) :
    ∀ e ∈ s.tt, s.eligibleEntry e = none := by
  intro e he
  cases h : s.eligibleEntry e with
  | none => rfl
  | some c =>
    obtain ⟨-, -, hphase⟩ := entryCandidate_eq_some s e c ((eligibleEntry_eq_some_iff s e c).1 h).1
    obtain ⟨h₀, h₁⟩ := (portChoice_eq_none_iff s).1 hport
    rcases hphase with ⟨hready, -⟩ | ⟨hready, -⟩
    · cases hp : e.port with
      | u0 => rw [← h, (portCandidate_eq_none_iff s .u0).1 h₀ e he hp hready]
      | u1 => rw [← h, (portCandidate_eq_none_iff s .u1).1 h₁ e he hp hready]
    · rw [← h, (writePhaseChoice_eq_none_iff s).1 hwrite e he hready]

theorem scrubChoice_shape (c : Candidate) (h : s.scrubChoice = some c) : c.cls = .scrub ∧ c.requester = .scrub := by
  obtain ⟨r, l, -, -, -, -, rfl⟩ := scrubCandidate_eq_some s c ((scrubChoice_eq_some_iff s c).1 h).1
  exact ⟨rfl, rfl⟩

theorem portChoice_shape (c : Candidate) (h : s.portChoice = some c) :
    c.cls = .port ∧ s.eligible c = true ∧ ∃ e ∈ s.tt, c.requester = .entry e.port e.tag := by
  obtain ⟨p, hp, -⟩ := portChoice_eq_some s c h
  obtain ⟨e, he, -, hready, heligible, -⟩ := portCandidate_eq_some s p c hp
  obtain ⟨hc, hel⟩ := (eligibleEntry_eq_some_iff s e c).1 heligible
  obtain ⟨hrequester, -, ⟨-, hcls, -⟩ | ⟨hwrite, -⟩⟩ := entryCandidate_eq_some s e c hc
  · exact ⟨hcls, hel, e, he, hrequester⟩
  · rw [hready] at hwrite
    cases hwrite

theorem writePhaseChoice_shape (c : Candidate) (h : s.writePhaseChoice = some c) :
    c.cls = .writeBack ∧ s.eligible c = true ∧ ∃ e ∈ s.tt, c.requester = .entry e.port e.tag := by
  obtain ⟨e, he, hready, heligible, -⟩ := writePhaseChoice_eq_some s c h
  obtain ⟨hc, hel⟩ := (eligibleEntry_eq_some_iff s e c).1 heligible
  obtain ⟨hrequester, -, ⟨hport, -⟩ | ⟨-, hcls, -⟩⟩ := entryCandidate_eq_some s e c hc
  · rw [hready] at hport
    cases hport
  · exact ⟨hcls, hel, e, he, hrequester⟩

theorem engineCandidate_shape (c : Candidate) (h : s.engineCandidate = some c) :
    c.cls = .migration ∧ (c.requester = .copyRead ∨ c.requester = .copyWrite) := by
  rcases engineCandidate_eq_some s c h with ⟨m, -, rfl⟩ | ⟨m, content, -, rfl⟩
  · exact ⟨rfl, .inl rfl⟩
  · exact ⟨rfl, .inr rfl⟩

theorem repairCandidate_shape (c : Candidate) (h : s.repairCandidate = some c) :
    c.cls = .writeBack ∧ ∃ h, c.requester = .repair h := by
  obtain ⟨r, rest, l, -, -, -, rfl⟩ := repairCandidate_eq_some s c h
  exact ⟨rfl, _, rfl⟩

/-! ## What the choice says of the classes before it -/

namespace Chosen

variable {s} {c : Candidate}

theorem eligible (h : Chosen s c) : s.eligible c = true := by
  cases h with
  | engine _ hel => exact hel
  | writePhase _ hc => exact (writePhaseChoice_shape s c hc).2.1
  | repair _ _ _ hel => exact hel
  | promoted _ _ _ _ hc => exact ((scrubChoice_eq_some_iff s c).1 hc).2
  | port _ _ _ _ hc => exact (portChoice_shape s c hc).2.1
  | scrub _ _ _ _ hc => exact ((scrubChoice_eq_some_iff s c).1 hc).2

theorem engine_first (h : Chosen s c) (k : Candidate) (hk : s.engineCandidate = some k) (hel : s.eligible k = true) :
    c = k := by
  have hsome : s.engineCandidate.filter s.eligible = some k := Option.filter_eq_some_iff.2 ⟨hk, hel⟩
  cases h with
  | engine hc _ => exact Option.some.inj (hc.symm.trans hk)
  | writePhase hnone _ | repair hnone _ _ _ | promoted hnone _ _ _ _ | port hnone _ _ _ _ | scrub hnone _ _ _ _ =>
    rw [hsome] at hnone
    cases hnone

theorem of_entry_writeBack (h : Chosen s c) (hcls : c.cls = .writeBack) (p : Port) (t : Tag)
    (hc : c.requester = .entry p t) : s.writePhaseChoice = some c := by
  cases h with
  | engine hk _ => simp [(engineCandidate_shape s c hk).1] at hcls
  | writePhase _ hk => exact hk
  | repair _ _ hk _ =>
    obtain ⟨-, x, hx⟩ := repairCandidate_shape s c hk
    simp [hx] at hc
  | promoted _ _ _ _ hk => simp [(scrubChoice_shape s c hk).1] at hcls
  | port _ _ _ _ hk => simp [(portChoice_shape s c hk).1] at hcls
  | scrub _ _ _ _ hk => simp [(scrubChoice_shape s c hk).1] at hcls

theorem no_writePhase (h : Chosen s c)
    (hc : c.requester = .scrub ∨ c.cls = .port ∨ ∃ x, c.requester = .repair x) : s.writePhaseChoice = none := by
  cases h with
  | engine hk _ =>
    obtain ⟨hcls, hreq | hreq⟩ := engineCandidate_shape s c hk <;> simp [hcls, hreq] at hc
  | writePhase _ hk =>
    obtain ⟨hcls, -, e, -, hreq⟩ := writePhaseChoice_shape s c hk
    simp [hcls, hreq] at hc
  | repair _ hnone _ _ | promoted _ hnone _ _ _ | port _ hnone _ _ _ | scrub _ hnone _ _ _ => exact hnone

theorem no_repair (h : Chosen s c) (hc : c.requester = .scrub ∨ c.cls = .port) :
    s.repairCandidate.filter s.eligible = none := by
  cases h with
  | engine hk _ =>
    obtain ⟨hcls, hreq | hreq⟩ := engineCandidate_shape s c hk <;> simp [hcls, hreq] at hc
  | writePhase _ hk =>
    obtain ⟨hcls, -, e, -, hreq⟩ := writePhaseChoice_shape s c hk
    simp [hcls, hreq] at hc
  | repair _ _ hk _ =>
    obtain ⟨hcls, x, hreq⟩ := repairCandidate_shape s c hk
    simp [hcls, hreq] at hc
  | promoted _ _ hnone _ _ | port _ _ hnone _ _ | scrub _ _ hnone _ _ => exact hnone

theorem of_port (h : Chosen s c) (hcls : c.cls = .port) :
    s.portChoice = some c ∧ (s.memory.passOver = 32 → s.scrubChoice = none) := by
  cases h with
  | engine hk _ => simp [(engineCandidate_shape s c hk).1] at hcls
  | writePhase _ hk => simp [(writePhaseChoice_shape s c hk).1] at hcls
  | repair _ _ hk _ => simp [(repairCandidate_shape s c hk).1] at hcls
  | promoted _ _ _ _ hk => simp [(scrubChoice_shape s c hk).1] at hcls
  | port _ _ _ hnone hk => exact ⟨hk, hnone⟩
  | scrub _ _ _ _ hk => simp [(scrubChoice_shape s c hk).1] at hcls

theorem no_port (h : Chosen s c) (hc : c.requester = .scrub) (hcount : s.memory.passOver ≠ 32) :
    s.portChoice = none := by
  cases h with
  | engine hk _ =>
    obtain ⟨-, hreq | hreq⟩ := engineCandidate_shape s c hk <;> simp [hreq] at hc
  | writePhase _ hk =>
    obtain ⟨-, -, e, -, hreq⟩ := writePhaseChoice_shape s c hk
    simp [hreq] at hc
  | repair _ _ hk _ =>
    obtain ⟨-, x, hreq⟩ := repairCandidate_shape s c hk
    simp [hreq] at hc
  | promoted _ _ _ hpast _ => exact absurd hpast hcount
  | port _ _ _ _ hk =>
    obtain ⟨-, -, e, -, hreq⟩ := portChoice_shape s c hk
    simp [hreq] at hc
  | scrub _ _ _ hnone _ => exact hnone

end Chosen

end

end Sys2Proof.Machine

namespace Sys2Proof.Proofs

open Sys2Proof.Machine

/-- Settles O30: the equations of each candidate, and what the chosen one says of the classes before it. -/
theorem grantClassesAreTakenInOrder : Obligations.GrantClassesAreTakenInOrder := by
  refine ⟨fun s k => ⟨rfl, rfl, rfl⟩, fun s c => ?_, fun s r rest hq => ⟨fun hwaits => ?_, fun hissued hgranted l hl => ?_⟩,
    fun s hq => ?_, ?_, fun s hread => ?_, fun s => ?_,
    fun s e c => ⟨eligibleEntry_eq_some_iff s e c, scrubChoice_eq_some_iff s c⟩, fun s hrunning hstopping => ?_,
    fun s hs => ⟨fun c hc => ?_, fun hnone => ?_⟩⟩
  · simp only [eligible_eq_false_iff, Slot.excludes_iff]
  · exact repairCandidate_waiting s r rest hq ((repairWaits_iff s r.home).2 hwaits)
  · refine repairCandidate_asking s r rest hq (fun hwaits => ?_) l hl
    rcases (repairWaits_iff s r.home).1 hwaits with ⟨e, he, hhome, hphase⟩ | ⟨x, hx, hhome, hsome⟩
    · exact hphase.elim (hissued e he hhome).1 (hissued e he hhome).2
    · exact hsome (hgranted x hx hhome)
  · simp only [State.repairCandidate, hq]
  · intro s r hread held
    refine ⟨fun hnot => scrubCandidate_held s r hread (hnot.imp_right (scrubHeld_iff s r).2), fun hgranted hheld => ?_⟩
    have hunheld : ¬ s.scrubHeld r = true := fun h => hheld ((scrubHeld_iff s r).1 h)
    obtain ⟨l, hl⟩ := exists_resolve s r.home fun h => hheld (.inr (.inr (.inr h)))
    exact ⟨l, hl, scrubCandidate_asking s r hread hgranted hunheld l hl⟩
  · simp only [State.scrubCandidate, hread]
  · refine ⟨fun m he => ?_, fun m content he => ?_, engineCandidate_eq_none s⟩
    · simp only [State.engineCandidate, he]
      rfl
    · simp only [State.engineCandidate, he]
  · exact if_neg (not_or.2 ⟨hrunning, hstopping⟩)
  · have h := chosen_of_chooseGrant s c hc
    refine ⟨h.eligible, h.engine_first, fun p t hcls hreq => ?_, fun hclass => ?_, fun hclass => ?_,
      fun hcls => (h.of_port hcls).2, fun hreq hcount => ?_⟩
    · have hwrite := h.of_entry_writeBack hcls p t hreq
      obtain ⟨e, he, hready, heligible, hold⟩ := writePhaseChoice_eq_some s c hwrite
      obtain ⟨hreq', -⟩ := entryCandidate_eq_some s e c ((eligibleEntry_eq_some_iff s e c).1 heligible).1
      obtain ⟨rfl, rfl⟩ := Requester.entry.inj (hreq'.symm.trans hreq)
      exact ⟨e, he, rfl, rfl, hready, heligible, hold⟩
    · exact (writePhaseChoice_eq_none_iff s).1 (h.no_writePhase hclass)
    · exact (filter_eq_none_iff_forall s _).1 (h.no_repair hclass)
    · obtain ⟨h₀, h₁⟩ := (portChoice_eq_none_iff s).1 (h.no_port hreq hcount)
      intro e he hready
      cases hp : e.port with
      | u0 => exact (portCandidate_eq_none_iff s .u0).1 h₀ e he hp hready
      | u1 => exact (portCandidate_eq_none_iff s .u1).1 h₁ e he hp hready
  · obtain ⟨hengine, hwrite, hrepair, hport, hscrub⟩ := (chooseGrant_eq_none_iff s hs).1 hnone
    refine ⟨fun k hk => ?_, eligibleEntry_eq_none_of_choices s hwrite hport⟩
    rcases hk with hk | hk | hk
    · exact (filter_eq_none_iff_forall s _).1 hengine k hk
    · exact (filter_eq_none_iff_forall s _).1 hrepair k hk
    · exact (filter_eq_none_iff_forall s _).1 hscrub k hk

end Sys2Proof.Proofs
end

section
/-! PROOFS. What a grant does (7.3, R130): the slot, the operation, the arbiter's accounts, and the requester's record. -/

-- One declaration after the other: side by side, the threads with their stacks outgrow the memory of the check.
set_option Elab.async false

namespace Sys2Proof.Machine

/-! ## The lowest FREE slot -/

theorem slotNumbers_find?_eq_some_iff (p : SlotNumber → Bool) (n : SlotNumber) :
    slotNumbers.find? p = some n ↔ p n = true ∧ ∀ m : SlotNumber, m < n → p m = false := by
  have hrange : slotNumbers = List.finRange 8 := by decide
  rw [hrange, List.find?_eq_some_iff_getElem]
  constructor
  · rintro ⟨hn, k, hk, hkn, hbefore⟩
    rw [List.getElem_finRange] at hkn
    subst hkn
    exact ⟨hn, fun m hm => by simpa using hbefore m.val hm⟩
  · rintro ⟨hn, hbefore⟩
    exact ⟨hn, n.val, by simp, by simp, fun m hm => by simpa using hbefore ⟨m, hm.trans n.isLt⟩ hm⟩

theorem Slot.isFree_iff (v : Slot) : v.isFree = true ↔ v = .free := by cases v <;> simp [Slot.isFree]

theorem freeSlot_eq_some_iff (s : State) (n : SlotNumber) :
    s.freeSlot = some n ↔ s.memory.slots[n] = .free ∧ ∀ m : SlotNumber, m < n → s.memory.slots[m] ≠ .free := by
  unfold State.freeSlot
  simp only [slotNumbers_find?_eq_some_iff, Slot.isFree_iff, ← Bool.not_eq_true]

theorem freeSlot_eq_none_iff (s : State) : s.freeSlot = none ↔ ∀ n : SlotNumber, s.memory.slots[n] ≠ .free := by
  simp only [State.freeSlot, List.find?_eq_none, mem_slotNumbers, Slot.isFree_iff, true_implies]

/-! ## GRANT -/

section
variable (s : State)

theorem exec_grant (ready : Bool) (hout : OutOfReset s) :
    exec (.grant ready) s = .next (s.quiet.grantIfPossible ready) := by
  have harm : exec (.grant ready) s = execGrant ready s := rfl
  rw [harm, execGrant, s.unlessReset_out _ hout]

theorem grantIfPossible_of_none (ready : Bool)
    (h : ready = false ∨ s.freeSlot = none ∨ s.chooseGrant = none) : s.grantIfPossible ready = s := by
  unfold State.grantIfPossible
  rcases h with rfl | h | h
  · rfl
  · cases ready <;> simp [h]
  · cases ready <;> cases hfree : s.freeSlot <;> simp [h]

theorem chooseGrant_quiet : s.quiet.chooseGrant = s.chooseGrant := rfl

theorem exec_grant_granted (n : SlotNumber) (c : Candidate) (hout : OutOfReset s) (hn : s.freeSlot = some n)
    (hc : s.chooseGrant = some c) :
    exec (.grant true) s = .next ((s.quiet.granting c n).recordIssue c n).relook := by
  have hn' : s.quiet.freeSlot = some n := hn
  rw [exec_grant s true hout]
  simp only [State.grantIfPossible, hn', chooseGrant_quiet, hc, if_true, grantTo_eq]

theorem account_slots (m : MemoryPort) (c : Candidate) (asks : Bool) : (m.account c asks).slots = m.slots := by
  unfold MemoryPort.account
  split <;> rfl

/-- What a grant puts out and how it fills the slot. -/
theorem granting_quiet_eq (c : Candidate) (n : SlotNumber) :
    s.quiet.granting c n = { s with
      memory := { s.memory.account c s.scrubChoice.isSome with
        slots := s.memory.slots.set n.1 (.busy c.kind (s.physicalLine c.location) c.location c.requester 0) n.2 }
      out := ⟨[], [], [⟨c.kind, s.physicalLine c.location, n, c.groups.map fun g => (g.1, g.2.stored)⟩], []⟩ } := by
  rw [← account_slots s.memory c s.scrubChoice.isSome]
  rfl

variable (c : Candidate) (n : SlotNumber)

/-- R130: the requester's record is in the entries, the repairs, the scrub or the engine. -/
theorem recordIssue_eq :
    s.recordIssue c n = { s with
      tt := (s.recordIssue c n).tt, repairs := (s.recordIssue c n).repairs
      scrub := (s.recordIssue c n).scrub, engine := (s.recordIssue c n).engine } := by
  unfold State.recordIssue
  cases c.requester <;> rfl

theorem recordIssue_entry (p : Port) (t : Tag) (h : c.requester = .entry p t) :
    s.recordIssue c n = s.updateEntry p t fun e => e.issue c.kind n c.location := by
  simp only [State.recordIssue, h]

theorem recordIssue_kept :
    ((∀ p t, c.requester ≠ .entry p t) → (s.recordIssue c n).tt = s.tt) ∧
    ((∀ h, c.requester ≠ .repair h) → (s.recordIssue c n).repairs = s.repairs) ∧
    (c.requester ≠ .scrub → (s.recordIssue c n).scrub = s.scrub) ∧
    (c.requester ≠ .copyRead → c.requester ≠ .copyWrite → (s.recordIssue c n).engine = s.engine) := by
  unfold State.recordIssue
  cases c.requester <;> simp [State.updateEntry]

end

theorem Entry.issue_eq (e : Entry) (kind : OpKind) (n : SlotNumber) (l : Location) :
    e.issue kind n l = { e with
      phase := if kind = .lineRead then .issued else .issuedWrite, slot := some n, location := some l } := by
  cases kind <;> rfl

/-! ## The arbiter's accounts (R134, R135) -/

section
variable (m : MemoryPort) (c : Candidate) (asks : Bool)

theorem account_port (p : Port) (t : Tag) (hcls : c.cls = .port) (hreq : c.requester = .entry p t) :
    m.account c asks =
      { m with mark := p, passOver := if asks then min 32 (m.passOver + 1) else m.passOver } := by
  simp only [MemoryPort.account, hcls, hreq]
  rfl

theorem account_scrub (hcls : c.cls = .scrub) : m.account c asks = { m with passOver := 0 } := by
  simp only [MemoryPort.account, hcls]

theorem account_other (hport : c.cls ≠ .port) (hscrub : c.cls ≠ .scrub) : m.account c asks = m := by
  unfold MemoryPort.account
  split
  · rename_i h _
    exact absurd h hport
  · rename_i h
    exact absurd h hscrub
  · rfl

end

/-! ## The requester's record (R31, R71, R113, R116, R150) -/

section
variable (s : State) (c : Candidate) (n : SlotNumber)

theorem recordIssue_repair (h : Nat) (hreq : c.requester = .repair h) (r : RepairRecord) (rest : List RepairRecord)
    (hq : s.repairs.queue = r :: rest) :
    (s.recordIssue c n).repairs = ⟨rest, s.repairs.issued ++ [⟨r, n⟩]⟩ := by
  simp only [State.recordIssue, hreq, Repairs.issueHead, hq]

theorem recordIssue_scrub (hreq : c.requester = .scrub) (r : ScrubRead) (hread : s.scrub.read = some r) :
    (s.recordIssue c n).scrub =
      { s.scrub with state := .reading, read := some { r with granted := some (c.location, n) } } := by
  simp only [State.recordIssue, hreq, hread, Option.map_some]

theorem recordIssue_copyRead (hreq : c.requester = .copyRead) (m : Migration) (o : Option SlotNumber)
    (he : s.engine = .copyRead m o) : (s.recordIssue c n).engine = .copyRead m (some n) := by
  simp only [State.recordIssue, hreq, Engine.issue, he]

theorem recordIssue_copyWrite (hreq : c.requester = .copyWrite) (m : Migration) (o : Option SlotNumber)
    (content : Vector ChunkContent 8) (he : s.engine = .copyWrite m o content) :
    (s.recordIssue c n).engine = .copyWrite m (some n) content := by
  simp only [State.recordIssue, hreq, Engine.issue, he]

/-- R31: an entry's record stands after the entries look again. -/
theorem mem_recordIssue_relook (e : Entry) (he : e ∈ s.tt) (hreq : c.requester = .entry e.port e.tag) :
    e.issue c.kind n c.location ∈ (s.recordIssue c n).relook.tt := by
  have hmem : e.issue c.kind n c.location ∈ (s.recordIssue c n).tt := by
    rw [recordIssue_entry s c n e.port e.tag hreq]
    exact List.mem_map.2 ⟨e, he, if_pos (by simp)⟩
  have hphase := phaseNow_issued (s.recordIssue c n) _ (e.isIssued_issue c.kind n c.location)
  exact (mem_relook _ _).2 ⟨_, hmem, by rw [hphase]⟩

end

theorem Chosen.scrub_iff {s : State} {c : Candidate} (h : Chosen s c) : c.requester = .scrub ↔ c.cls = .scrub := by
  cases h with
  | engine hk _ => obtain ⟨hcls, hreq | hreq⟩ := engineCandidate_shape s c hk <;> simp [hcls, hreq]
  | writePhase _ hk =>
    obtain ⟨hcls, -, e, -, hreq⟩ := writePhaseChoice_shape s c hk
    simp [hcls, hreq]
  | repair _ _ hk _ =>
    obtain ⟨hcls, x, hreq⟩ := repairCandidate_shape s c hk
    simp [hcls, hreq]
  | promoted _ _ _ _ hk | scrub _ _ _ _ hk => simp [scrubChoice_shape s c hk]
  | port _ _ _ _ hk =>
    obtain ⟨hcls, -, e, -, hreq⟩ := portChoice_shape s c hk
    simp [hcls, hreq]

end Sys2Proof.Machine

namespace Sys2Proof.Proofs

open Sys2Proof.Machine

/-- Settles O29: the requester's record is the only thing that a grant changes by kind. -/
theorem grantTakesTheLowestFreeSlot : Obligations.GrantTakesTheLowestFreeSlot := by
  constructor
  · intro s ready hout h
    rw [exec_grant s ready hout]
    refine congrArg Host.Outcome.next (grantIfPossible_of_none s.quiet ready (h.imp_right (Or.imp_left fun hfree => ?_)))
    exact (freeSlot_eq_none_iff s).2 hfree
  · intro s n c hout hfree hbefore hc
    let x := s.quiet.granting c n
    have hx : x = _ := granting_quiet_eq s c n
    obtain ⟨htt, hrepairs, hscrub, hengine⟩ := recordIssue_kept x c n
    have hsame := relook_sameButPhases (x.recordIssue c n)
    have heq := recordIssue_eq x c n
    refine ⟨_, exec_grant_granted s n c hout ((freeSlot_eq_some_iff s n).2 ⟨hfree, hbefore⟩) hc, fun p t hreq => ?_,
      fun hreq => ?_, hrepairs, hscrub, hengine, ?_, ?_⟩
    · rw [recordIssue_entry x c n p t hreq] at hsame
      have hothers := others_updateEntry x p t (fun e => e.issue c.kind n c.location) fun _ => ⟨rfl, rfl⟩
      rw [recordIssue_entry x c n p t hreq]
      exact (others_sameButPhases hsame p t).trans (congrArg _ hothers)
    · rw [htt hreq] at hsame
      exact hsame
    · change (x.recordIssue c n).memory.slots = _
      rw [heq, hx]
    · change (x.recordIssue c n).relook = _
      rw [heq, hx]
      rfl

/-- Settles O31: the choice within PORT is by the mark, and the account of a grant is by its class. -/
theorem portsAlternateAndTheScrubIsPassedOver : Obligations.PortsAlternateAndTheScrubIsPassedOver := by
  intro s c hc
  have h := chosen_of_chooseGrant s c hc
  refine ⟨fun hcls => ?_, fun u hout hfree hu => ?_⟩
  · obtain ⟨p, hp, hother⟩ := portChoice_eq_some s c (h.of_port hcls).1
    obtain ⟨e, he, rfl, hready, heligible, hold⟩ := portCandidate_eq_some s p c hp
    obtain ⟨hreq, -⟩ := entryCandidate_eq_some s e c ((eligibleEntry_eq_some_iff s e c).1 heligible).1
    refine ⟨e, he, hreq, hready, heligible, hold, fun hwaits => ?_⟩
    obtain ⟨x, hx, hxport, hxready, hxeligible⟩ := hwaits
    exact hother x.port hxport fun hnone =>
      hxeligible ((portCandidate_eq_none_iff s x.port).1 hnone x hx rfl hxready)
  · obtain ⟨n, hn⟩ : ∃ n, s.freeSlot = some n := by
      obtain ⟨m, hm⟩ := hfree
      exact Option.ne_none_iff_exists'.1 fun hnone => (freeSlot_eq_none_iff s).1 hnone m hm
    rw [exec_grant_granted s n c hout hn hc] at hu
    have hmemory : u.memory = (s.quiet.granting c n).memory := by
      rw [← Host.Outcome.next.inj hu]
      change (State.recordIssue _ c n).memory = _
      rw [recordIssue_eq]
    rw [granting_quiet_eq] at hmemory
    rw [hmemory]
    refine ⟨fun p t hcls hreq => ?_, fun hcls => ?_, fun hreq => ?_, fun hcls hreq => ?_⟩
    · rw [account_port s.memory c _ p t hcls hreq]
      cases s.scrubChoice <;> exact ⟨rfl, rfl⟩
    · by_cases hscrub : c.cls = .scrub
      · rw [account_scrub s.memory c _ hscrub]
      · rw [account_other s.memory c _ hcls hscrub]
    · rw [account_scrub s.memory c _ (h.scrub_iff.1 hreq)]
    · rw [account_other s.memory c _ hcls fun hscrub => hreq (h.scrub_iff.2 hscrub)]

/-- Settles O32: whom the arbiter chose says what the requester was before the grant. -/
theorem grantedRequesterRecordsItsIssue : Obligations.GrantedRequesterRecordsItsIssue := by
  intro s c n u hout hfree hbefore hc hu
  let x := s.quiet.granting c n
  have hx : x = _ := granting_quiet_eq s c n
  rw [exec_grant_granted s n c hout ((freeSlot_eq_some_iff s n).2 ⟨hfree, hbefore⟩) hc] at hu
  obtain rfl : (x.recordIssue c n).relook = u := Host.Outcome.next.inj hu
  obtain ⟨-, hrepairs, hscrub, hengine⟩ := recordIssue_kept x c n
  have hasker := asker_of_chooseGrant s c hc
  refine ⟨fun p t hreq => ?_, fun h hreq => ?_, fun hreq => ?_, fun hreq => ?_, fun hreq => ?_⟩
  · simp only [hreq, ne_eq, reduceCtorEq, not_false_eq_true, implies_true, true_implies] at hrepairs hscrub hengine
    refine ⟨hrepairs, hscrub, hengine, ?_⟩
    rintro e he rfl rfl
    rw [← Entry.issue_eq]
    exact mem_recordIssue_relook x c n e he hreq
  · simp only [hreq, ne_eq, reduceCtorEq, not_false_eq_true, true_implies] at hscrub hengine
    cases hasker with
    | repair r rest hq hreq' hcandidate =>
      obtain rfl : r.home = h := Requester.repair.inj (hreq'.symm.trans hreq)
      obtain ⟨r', rest', l, hq', -, -, rfl⟩ := repairCandidate_eq_some s c hcandidate
      obtain ⟨rfl, rfl⟩ := List.cons.inj (hq.symm.trans hq')
      have hissued := recordIssue_repair x _ n r.home hreq r rest hq
      refine ⟨r, rest, hq, rfl, rfl, hissued, hscrub, hengine, relook_waiting_of_held _ r.home fun y hy => ?_⟩
      refine .inr (.inr (.inr (.inl ⟨⟨r, n⟩, ?_, hy.symm⟩)))
      rw [hissued]
      exact List.mem_append_right _ (List.mem_singleton.2 rfl)
    | entry _ _ hreq' | scrub _ _ _ hreq' | copyRead _ _ hreq' | copyWrite _ _ _ hreq' =>
      rw [hreq] at hreq'
      cases hreq'
  · simp only [hreq, ne_eq, reduceCtorEq, not_false_eq_true, implies_true, true_implies] at hrepairs hengine
    cases hasker with
    | scrub r hread _ _ hcandidate =>
      obtain ⟨r', l, hread', -, -, hl, rfl⟩ := scrubCandidate_eq_some s c hcandidate
      obtain rfl := Option.some.inj (hread.symm.trans hread')
      exact ⟨r, hread, hl, recordIssue_scrub x _ n hreq r hread, hrepairs, hengine⟩
    | entry _ _ hreq' | repair _ _ _ hreq' | copyRead _ _ hreq' | copyWrite _ _ _ hreq' =>
      rw [hreq] at hreq'
      cases hreq'
  · simp only [hreq, ne_eq, reduceCtorEq, not_false_eq_true, implies_true, true_implies] at hrepairs hscrub
    cases hasker with
    | copyRead m he _ hcandidate =>
      refine ⟨m, he, ?_, recordIssue_copyRead x c n hreq m _ he, hrepairs, hscrub⟩
      rcases engineCandidate_eq_some s c hcandidate with ⟨m', he', rfl⟩ | ⟨m', content, he', rfl⟩
      · obtain ⟨rfl, -⟩ := Engine.copyRead.inj (he.symm.trans he')
        rfl
      · cases hreq
    | entry _ _ hreq' | repair _ _ _ hreq' | scrub _ _ _ hreq' | copyWrite _ _ _ hreq' =>
      rw [hreq] at hreq'
      cases hreq'
  · simp only [hreq, ne_eq, reduceCtorEq, not_false_eq_true, implies_true, true_implies] at hrepairs hscrub
    cases hasker with
    | copyWrite m content he _ hcandidate =>
      refine ⟨m, content, he, ?_⟩
      rcases engineCandidate_eq_some s c hcandidate with ⟨m', he', rfl⟩ | ⟨m', content', he', rfl⟩
      · cases hreq
      · obtain ⟨rfl, -, rfl⟩ := Engine.copyWrite.inj (he.symm.trans he')
        exact ⟨rfl, rfl, recordIssue_copyWrite x _ n hreq m _ content he, hrepairs, hscrub⟩
    | entry _ _ hreq' | repair _ _ _ hreq' | scrub _ _ _ hreq' | copyRead _ _ hreq' =>
      rw [hreq] at hreq'
      cases hreq'

end Sys2Proof.Proofs
end

section
/-! PROOFS. The timebase and the countdown (8.1, 8.2): a tick when nothing is due, and the expiry of the countdown. -/

-- One declaration after the other: side by side, the threads with their stacks outgrow the memory of the check.
set_option Elab.async false

namespace Sys2Proof.Machine

/-! ## Nothing due -/

section
variable (s : State)

theorem takeIfDue_of_not_due (h : s.takeDue = false) : s.takeIfDue = s := if_neg (Bool.eq_false_iff.1 h)

theorem takesDue_of_not_due (h : s.takeDue = false) (n : Nat) : State.takesDue n s = s := by
  induction n with
  | zero => rfl
  | succ n ih => rw [State.takesDue, takeIfDue_of_not_due s h, ih]

theorem expireIfDue_of_not_due (n : SlotNumber) (h : s.expiryDue n = false) : s.expireIfDue n = s :=
  if_neg (Bool.eq_false_iff.1 h)

theorem expireAllDue_of_not_due (h : ∀ n : SlotNumber, s.expiryDue n = false) : s.expireAllDue = s := by
  unfold State.expireAllDue
  induction slotNumbers with
  | nil => rfl
  | cons n l ih => rw [List.foldl_cons, expireIfDue_of_not_due s n (h n), ih]

theorem settleDue_of_nothingDue (h : NothingDue s) : s.settleDue = s := by
  obtain ⟨hexpiry, hcountdown, hstop, hrestart, htake⟩ := h
  unfold State.settleDue
  simp only [expireAllDue_of_not_due s hexpiry, hcountdown, Bool.false_eq_true, if_false,
    completeStopIfDue_of_not_due s (Bool.eq_false_iff.1 hstop),
    completeRestartIfDue_of_not_due s (Bool.eq_false_iff.1 hrestart)]
  exact takesDue_of_not_due s htake _

/-! ## The tick (R145, R146) -/

theorem exec_tick (hout : OutOfReset s) : exec .tick s = .next s.quiet.settleDue.emitTick := by
  have harm : exec .tick s = execTick s := rfl
  rw [harm, execTick, s.unlessReset_out _ hout]

theorem tickSlots_eq : s.tickSlots = { s with memory := { s.memory with slots := s.tickSlots.memory.slots } } := by
  unfold State.tickSlots
  split_ifs <;> rfl

theorem tickSlots_slot (n : SlotNumber) :
    s.tickSlots.memory.slots[n] =
      if s.cfg.downstreamTimeout = 0 then s.memory.slots[n] else (s.memory.slots[n]).tick := by
  unfold State.tickSlots
  by_cases h : s.cfg.downstreamTimeout = 0
  · rw [if_pos h, if_pos h]
  · rw [if_neg h, if_neg h]
    exact perChunk_get _ n

theorem Slot.tick_of_not_busy (v : Slot) (h : v.isBusy = false) : v.tick = v := by
  cases v with
  | busy => cases h
  | _ => rfl

theorem tickCountdown_eq :
    s.tickCountdown = { s with scrub := { s.scrub with
      countdown := if s.service = .running ∧ s.scrub.state ≠ .off then s.scrub.countdown - 1
        else s.scrub.countdown } } := by
  unfold State.tickCountdown
  split_ifs <;> rfl

theorem emitTick_eq :
    s.emitTick = { s with
      microseconds := 0, memory := { s.memory with slots := s.tickSlots.memory.slots }
      scrub := { s.scrub with
        countdown := if s.service = .running ∧ s.scrub.state ≠ .off then s.scrub.countdown - 1
          else s.scrub.countdown } } := by
  unfold State.emitTick
  rw [tickCountdown_eq, tickSlots_eq]

/-! ## The countdown (R148, R149) -/

theorem exec_countdownExpiry (hout : OutOfReset s) :
    exec .countdownExpiry s = .next (if s.quiet.countdownDue then s.quiet.countdownExpiry else s.quiet) := by
  have harm : exec .countdownExpiry s = execCountdownExpiry s := rfl
  rw [harm, execCountdownExpiry, s.unlessReset_out _ hout]

theorem countdownDue_iff :
    s.countdownDue = true ↔ s.service = .running ∧ s.scrub.state ≠ .off ∧ s.scrub.countdown = 0 := by
  simp [State.countdownDue, and_assoc]

/-- The bridge with the countdown loaded again. -/
def State.reloaded : State := { s with scrub := { s.scrub with countdown := s.cfg.scrubInterval } }

theorem countdownExpiry_outstanding (h : s.scrub.state ≠ .waiting) : s.countdownExpiry = s.reloaded := if_neg h

theorem countdownExpiry_created (h : s.scrub.state = .waiting) (hmoving : s.isMoving s.scrub.cursor = false) :
    s.countdownExpiry = s.reloaded.createScrubRead :=
  (if_pos h).trans (congrArg State.createScrubRead (if_neg (Bool.eq_false_iff.1 hmoving)))

/-- R149: the line of the cursor is passed over while it is MOVING. -/
theorem countdownExpiry_past (h : s.scrub.state = .waiting) (hmoving : s.isMoving s.scrub.cursor = true) :
    s.countdownExpiry = s.reloaded.advanceCursor.createScrubRead :=
  (if_pos h).trans (congrArg State.createScrubRead (if_pos hmoving))

end

/-! ## Aging (R80) -/

section
variable (x : SuspectRecord) (l : List SuspectRecord)

theorem ageSuspects_touched (h : x.touched = true) :
    ageSuspects (x :: l) = { x with touched := false } :: ageSuspects l := by
  simp [ageSuspects, h]

theorem ageSuspects_counted (h : x.touched = false) (hcount : 1 < x.count) :
    ageSuspects (x :: l) = { x with count := x.count - 1 } :: ageSuspects l := by
  have hnot : ¬ x.count ≤ 1 := by omega
  simp [ageSuspects, h, hnot]

theorem ageSuspects_leaves (h : x.touched = false) (hcount : x.count = 1) :
    ageSuspects (x :: l) = ageSuspects l := by
  simp [ageSuspects, h, hcount]

end

end Sys2Proof.Machine

namespace Sys2Proof.Proofs

open Sys2Proof.Machine

/-- Settles O35: nothing that is due comes before the tick, so it reaches the slots and the countdown alone. -/
theorem tickReachesSlotsAndCountdown : Obligations.TickReachesSlotsAndCountdown := by
  intro s hout hnothing
  have hdue : s.quiet.settleDue = s.quiet := settleDue_of_nothingDue s.quiet hnothing
  constructor
  · refine ⟨s.quiet.emitTick, by rw [exec_tick s hout, hdue], fun n kind line l q count hslot => ?_,
      fun n hidle => ?_, ?_⟩
    · have hquiet : s.quiet.memory.slots[n] = .busy kind line l q count := hslot
      rw [emitTick_eq, tickSlots_slot, hquiet]
      change (if s.cfg.downstreamTimeout = 0 then _ else _) = _
      split_ifs <;> rfl
    · have hquiet : s.quiet.memory.slots[n].isBusy = false := hidle
      rw [emitTick_eq, tickSlots_slot, Slot.tick_of_not_busy _ hquiet, ite_self]
      rfl
    · rw [emitTick_eq]
      rfl
  · intro hpending
    have hmicro : step s = .next s.microsecond := by rw [step, hpending]
    rw [hmicro, exec_tick s hout, State.microsecond, s.unlessReset_out _ hout]
    simp only [hdue]
    change Host.Outcome.next (if s.microseconds + 1 < 2 ^ s.cfg.tickShift then _ else _) = _
    split_ifs <;> rfl

/-- Settles O36: one equation of the expiry for each state of the scrub. -/
theorem countdownExpiryCreatesAScrubRead : Obligations.CountdownExpiryCreatesAScrubRead := by
  refine ⟨⟨rfl, fun x l => ⟨ageSuspects_touched x l, ageSuspects_counted x l, ageSuspects_leaves x l⟩⟩,
    fun s hout => ⟨fun hnot => ?_, fun hs hzero => ?_⟩⟩
  · have hdue : ¬ s.quiet.countdownDue = true := fun h => hnot ((countdownDue_iff s.quiet).1 h)
    rw [exec_countdownExpiry s hout, if_neg hdue]
  · have hexec (hoff : s.scrub.state ≠ .off) : exec .countdownExpiry s = .next s.quiet.countdownExpiry := by
      rw [exec_countdownExpiry s hout, if_pos ((countdownDue_iff s.quiet).2 ⟨hs, hoff, hzero⟩)]
    refine ⟨fun hstate => ?_, fun hstate hmoving => ?_, fun hstate hmoving hnext => ?_, fun hstate hmoving hend => ?_⟩
    · have hnot : s.quiet.scrub.state ≠ .waiting := by rcases hstate with h | h <;> simp [h]
      rw [hexec (by rcases hstate with h | h <;> simp [h]), countdownExpiry_outstanding _ hnot]
      rfl
    · rw [hexec (by simp [hstate]), countdownExpiry_created s.quiet hstate hmoving]
      rfl
    · have hlast : s.quiet.reloaded.atLastLine = false := decide_eq_false (not_le.2 hnext)
      rw [hexec (by simp [hstate]), countdownExpiry_past s.quiet hstate hmoving, advanceCursor_eq, hlast,
        advanced_false]
      rfl
    · have hlast : s.quiet.reloaded.atLastLine = true := decide_eq_true hend
      rw [hexec (by simp [hstate]), countdownExpiry_past s.quiet hstate hmoving, advanceCursor_eq, hlast]
      rfl

end Sys2Proof.Proofs
end
